-- ==== Sys2Proof/Word.lean ====
section
/-! DEFINITION. The word types of the block: a byte of the byte-serial wrapper, the 32-bit operand and
response word, and the 72-bit command word (30_encoding.md R44, R46). -/

namespace Sys2Proof

/-- One byte of the byte-serial form of a word (20_memory.md R34). -/
abbrev Byte := BitVec 8

/-- A 32-bit operand field or response value (30_encoding.md R46, R50). -/
abbrev Word := BitVec 32

/-- A 72-bit command word (30_encoding.md R46). -/
abbrev CmdWord := BitVec 72

end Sys2Proof
end

