-- ==== Sys2Proof/Config.lean ====
section
/-! DEFINITION. What an implementation of the block fixes: the parameters of 00_scope.md R4 to R9 and the
open parameters of 92_eei_decisions.md, each named once (93_implementation_defined.md I4). -/

namespace Sys2Proof.Config

/-- How a tie of the delta-to-count rounding is broken (00_scope.md R9). -/
inductive RoundTies where
  | away
  | even
deriving DecidableEq, Repr

/-- The byte order of a byte-serial wrapper around the command port (20_memory.md R34). -/
inductive ByteOrder where
  | little
  | big
deriving DecidableEq, Repr

/-- `ROUND_TIES`: ties go away from zero (00_scope.md R9). Log entry 9. -/
def roundTies : RoundTies := .away

/-- `WRAPPER_BYTE_ORDER`: little-endian (20_memory.md R34). Log entry 20. -/
def wrapperByteOrder : ByteOrder := .little

/-- `UNITS_PER_DEG`: one angle unit is a millionth of a degree (00_scope.md R8). Log entry 10. -/
abbrev unitsPerDeg : Int := 1000000

/-- `FULL`: 360 degrees in angle units (00_scope.md R8). -/
abbrev full : Int := 360 * unitsPerDeg

/-- `HALF`: 180 degrees in angle units (00_scope.md R8). -/
abbrev half : Int := 180 * unitsPerDeg

/-- `TOL`: 0.001 degree in angle units (00_scope.md R7, R8). -/
abbrev tol : Int := unitsPerDeg / 1000

/-- `CPR_MIN` (00_scope.md R5). -/
abbrev cprMin : Int := 1

/-- `CPR_MAX` (00_scope.md R5). -/
abbrev cprMax : Int := 9000

/-- The least number of active slots (00_scope.md R4). -/
abbrev numAxesMin : Int := 1

/-- The greatest number of active slots, which is `NUM_SLOTS` (00_scope.md R4). -/
abbrev numAxesMax : Int := 2

/-- `CPR_DEFAULT`, the default level of the input `cfg_cpr` (00_scope.md R6). -/
abbrev cprDefault : Word := 4096#32

/-- `NUM_AXES_DEFAULT`, the default level of the input `cfg_num_axes` (00_scope.md R6). -/
abbrev numAxesDefault : Word := 2#32

end Sys2Proof.Config
end

