-- ==== Sys2Proof/Syntax.lean ====
section
/-! DEFINITION. The fourteen commands of command interface version 1 (30_encoding.md R51), their names and
their operand formats. An operand is the integer `sext_32` of its 32-bit field (R47 to R49). -/

namespace Sys2Proof

/-- The names of the opcode table (30_encoding.md R51), in its order. -/
inductive Mnemonic where
  | nop
  | init
  | update
  | resetIndex
  | setCpr
  | setCprAxis
  | setNumAxes
  | getChannelA
  | getChannelB
  | getIndex
  | getCpr
  | getPositionCount
  | isCalibrated
  | getFormattedOutput
deriving DecidableEq, Repr

/-- The operand formats of 30_encoding.md R51: two angles, an axis and an angle, one integer, an axis and an
integer, one axis, none. -/
inductive Format where
  | aa
  | xa
  | i
  | xi
  | x
  | n
deriving DecidableEq, Repr

/-- The kinds of operand of 30_encoding.md R47 to R49. -/
inductive OperandKind where
  | angle
  | integer
  | axis
deriving DecidableEq, Repr

/-- A command with its operands. An operand field that R51 marks "ignored" is no part of it (R53). -/
inductive Instr where
  /-- 0x00 NOP (42_config_commands.md R78). -/
  | nop
  /-- 0x01 INIT (41_sample_commands.md R69). -/
  | init (angle1 angle2 : Int)
  /-- 0x02 UPDATE (41_sample_commands.md R71). -/
  | update (angle1 angle2 : Int)
  /-- 0x03 RESET_INDEX (41_sample_commands.md R73). -/
  | resetIndex (axis angle : Int)
  /-- 0x04 SET_CPR (42_config_commands.md R75). -/
  | setCpr (cpr : Int)
  /-- 0x05 SET_CPR_AXIS (42_config_commands.md R76). -/
  | setCprAxis (axis cpr : Int)
  /-- 0x06 SET_NUM_AXES (42_config_commands.md R77). -/
  | setNumAxes (n : Int)
  /-- 0x10 GET_CHANNEL_A (43_output_commands.md R79). -/
  | getChannelA (axis : Int)
  /-- 0x11 GET_CHANNEL_B (43_output_commands.md R80). -/
  | getChannelB (axis : Int)
  /-- 0x12 GET_INDEX (43_output_commands.md R81). -/
  | getIndex (axis : Int)
  /-- 0x13 GET_CPR (43_output_commands.md R82). -/
  | getCpr (axis : Int)
  /-- 0x14 GET_POSITION_COUNT (43_output_commands.md R83). -/
  | getPositionCount (axis : Int)
  /-- 0x15 IS_CALIBRATED (43_output_commands.md R84). -/
  | isCalibrated (axis : Int)
  /-- 0x18 GET_FORMATTED_OUTPUT (43_output_commands.md R85). -/
  | getFormattedOutput
deriving DecidableEq, Repr

end Sys2Proof
end

