-- ==== Sys2Proof/WellFormed.lean ====
section
/-! DEFINITION. The one check on a command: every operand is an integer that a 32-bit two's-complement field
holds (30_encoding.md R47 to R49, R56). -/

namespace Sys2Proof

/-- `v` is in the range `-2^31` to `2^31 - 1` of a 32-bit two's-complement field (30_encoding.md R48). -/
def fitsWord (v : Int) : Bool :=
  decide (-2147483648 ≤ v) && decide (v ≤ 2147483647)

/-- Every operand of the command fits its field. -/
def Instr.wellFormed : Instr → Bool
  | .nop => true
  | .init angle1 angle2 => fitsWord angle1 && fitsWord angle2
  | .update angle1 angle2 => fitsWord angle1 && fitsWord angle2
  | .resetIndex axis angle => fitsWord axis && fitsWord angle
  | .setCpr cpr => fitsWord cpr
  | .setCprAxis axis cpr => fitsWord axis && fitsWord cpr
  | .setNumAxes n => fitsWord n
  | .getChannelA axis => fitsWord axis
  | .getChannelB axis => fitsWord axis
  | .getIndex axis => fitsWord axis
  | .getCpr axis => fitsWord axis
  | .getPositionCount axis => fitsWord axis
  | .isCalibrated axis => fitsWord axis
  | .getFormattedOutput => true

/-- The well-formed commands: those that have a command word. -/
abbrev WellFormed (i : Instr) : Prop := i.wellFormed = true

end Sys2Proof
end

