-- ==== Sys2Proof/Decode.lean ====
section
/-! DEFINITION. The decoder of a command word and of its byte-serial form, total on any word and any bytes, and
after it the encoder; both written from the tables of 30_encoding.md R46 and R51. -/

namespace Sys2Proof

/-- `cmd.op = zext_8(cmd_word[7:0])` (30_encoding.md R46). -/
def opField (w : CmdWord) : BitVec 8 := w.extractLsb' 0 8

/-- `cmd.arg0 = cmd_word[39:8]` (30_encoding.md R46). -/
def arg0Field (w : CmdWord) : Word := w.extractLsb' 8 32

/-- `cmd.arg1 = cmd_word[71:40]` (30_encoding.md R46). -/
def arg1Field (w : CmdWord) : Word := w.extractLsb' 40 32

/-- `sext_32` (00_scope.md R10): a 32-bit field read as a two's-complement integer. -/
def sext32 (v : Word) : Int := v.toInt

/-- The 32-bit field that holds an integer operand (30_encoding.md R56). -/
def operandField (v : Int) : Word := BitVec.ofInt 32 v

/-- The opcode of a command (30_encoding.md R51). -/
def Mnemonic.opcode : Mnemonic → BitVec 8
  | .nop => 0x00#8
  | .init => 0x01#8
  | .update => 0x02#8
  | .resetIndex => 0x03#8
  | .setCpr => 0x04#8
  | .setCprAxis => 0x05#8
  | .setNumAxes => 0x06#8
  | .getChannelA => 0x10#8
  | .getChannelB => 0x11#8
  | .getIndex => 0x12#8
  | .getCpr => 0x13#8
  | .getPositionCount => 0x14#8
  | .isCalibrated => 0x15#8
  | .getFormattedOutput => 0x18#8

/-- The command an opcode selects, matched on all 8 bits; nothing for a reserved opcode
(30_encoding.md R51, R52). -/
def Mnemonic.ofOpcode (op : BitVec 8) : Option Mnemonic :=
  match op.toNat with
  | 0x00 => some .nop
  | 0x01 => some .init
  | 0x02 => some .update
  | 0x03 => some .resetIndex
  | 0x04 => some .setCpr
  | 0x05 => some .setCprAxis
  | 0x06 => some .setNumAxes
  | 0x10 => some .getChannelA
  | 0x11 => some .getChannelB
  | 0x12 => some .getIndex
  | 0x13 => some .getCpr
  | 0x14 => some .getPositionCount
  | 0x15 => some .isCalibrated
  | 0x18 => some .getFormattedOutput
  | _ => none

/-- The format column of 30_encoding.md R51. -/
def Mnemonic.format : Mnemonic → Format
  | .nop => .n
  | .init => .aa
  | .update => .aa
  | .resetIndex => .xa
  | .setCpr => .i
  | .setCprAxis => .xi
  | .setNumAxes => .i
  | .getChannelA => .x
  | .getChannelB => .x
  | .getIndex => .x
  | .getCpr => .x
  | .getPositionCount => .x
  | .isCalibrated => .x
  | .getFormattedOutput => .n

/-- The operand kinds a format carries, arg0 first (30_encoding.md R51). -/
def Format.operands : Format → List OperandKind
  | .aa => [.angle, .angle]
  | .xa => [.axis, .angle]
  | .i => [.integer]
  | .xi => [.axis, .integer]
  | .x => [.axis]
  | .n => []

/-- The command with the given name and the given values of arg0 and arg1; a field that 30_encoding.md R51
marks "ignored" is dropped (R53). -/
def Instr.ofFields (m : Mnemonic) (arg0 arg1 : Int) : Instr :=
  match m with
  | .nop => .nop
  | .init => .init arg0 arg1
  | .update => .update arg0 arg1
  | .resetIndex => .resetIndex arg0 arg1
  | .setCpr => .setCpr arg0
  | .setCprAxis => .setCprAxis arg0 arg1
  | .setNumAxes => .setNumAxes arg0
  | .getChannelA => .getChannelA arg0
  | .getChannelB => .getChannelB arg0
  | .getIndex => .getIndex arg0
  | .getCpr => .getCpr arg0
  | .getPositionCount => .getPositionCount arg0
  | .isCalibrated => .isCalibrated arg0
  | .getFormattedOutput => .getFormattedOutput

/-- Why a word or a byte string is no command of the opcode table. -/
inductive DecodeError where
  /-- The opcode is not in the table of 30_encoding.md R51. The block still accepts such a word and does
  nothing with it (R52), so this is no refusal of the machine. -/
  | reservedOpcode (op : BitVec 8)
  /-- A byte string whose length is not nine is no byte-serial command word (20_memory.md R34). Raised by
  `decodeBytes` only, which no step calls. -/
  | notNineBytes (length : Nat)
deriving DecidableEq, Repr

/-- The decoder: the table of 30_encoding.md R51 applied to `cmd_word[7:0]` (R54). -/
def decode (w : CmdWord) : Except DecodeError Instr :=
  match Mnemonic.ofOpcode (opField w) with
  | some m => .ok (Instr.ofFields m (sext32 (arg0Field w)) (sext32 (arg1Field w)))
  | none => .error (.reservedOpcode (opField w))

/-- The number whose bytes, lowest first, are given. -/
def bytesToNat : List Byte → Nat
  | [] => 0
  | b :: bs => b.toNat + 256 * bytesToNat bs

/-- The `k` lowest bytes of a number, lowest first. -/
def natToBytes : Nat → Nat → List Byte
  | 0, _ => []
  | k + 1, v => BitVec.ofNat 8 v :: natToBytes k (v / 256)

/-- A list of bytes, lowest first, in the order a wrapper moves them, and back (20_memory.md R34). -/
def wrapperOrder (order : Config.ByteOrder) (bytes : List Byte) : List Byte :=
  match order with
  | .little => bytes
  | .big => bytes.reverse

/-- The nine bytes of a command word as a byte-serial wrapper moves them (20_memory.md R34). -/
def commandBytes (w : CmdWord) : List Byte :=
  wrapperOrder Config.wrapperByteOrder (natToBytes 9 w.toNat)

/-- The four bytes of a response as a byte-serial wrapper moves them (20_memory.md R34). -/
def responseBytes (v : Word) : List Byte :=
  wrapperOrder Config.wrapperByteOrder (natToBytes 4 v.toNat)

/-- The command a byte-serial wrapper assembles from the bytes it received (20_memory.md R34). -/
def decodeBytes (bytes : List Byte) : Except DecodeError Instr :=
  if bytes.length = 9 then
    decode (BitVec.ofNat 72 (bytesToNat (wrapperOrder Config.wrapperByteOrder bytes)))
  else .error (.notNineBytes bytes.length)

/-- The command word that the opcode table's bits make, every bit above `nbits` zero. -/
def tableWord (nbits w : Nat) : CmdWord := BitVec.ofNat 72 (w % 2 ^ nbits)

/-- The instruction the decoder reads from an instruction of `nbits` bits whose bits are `w`. -/
def decodeTableWord (nbits w : Nat) : Option Instr :=
  match decode (tableWord nbits w) with
  | .ok i => some i
  | .error _ => none

/-- The name of a command. -/
def Instr.mnemonic : Instr → Mnemonic
  | .nop => .nop
  | .init _ _ => .init
  | .update _ _ => .update
  | .resetIndex _ _ => .resetIndex
  | .setCpr _ => .setCpr
  | .setCprAxis _ _ => .setCprAxis
  | .setNumAxes _ => .setNumAxes
  | .getChannelA _ => .getChannelA
  | .getChannelB _ => .getChannelB
  | .getIndex _ => .getIndex
  | .getCpr _ => .getCpr
  | .getPositionCount _ => .getPositionCount
  | .isCalibrated _ => .isCalibrated
  | .getFormattedOutput => .getFormattedOutput

/-- The value of arg0, zero where the field is ignored, as a host should write it (30_encoding.md R53). -/
def Instr.arg0 : Instr → Int
  | .nop => 0
  | .init angle1 _ => angle1
  | .update angle1 _ => angle1
  | .resetIndex axis _ => axis
  | .setCpr cpr => cpr
  | .setCprAxis axis _ => axis
  | .setNumAxes n => n
  | .getChannelA axis => axis
  | .getChannelB axis => axis
  | .getIndex axis => axis
  | .getCpr axis => axis
  | .getPositionCount axis => axis
  | .isCalibrated axis => axis
  | .getFormattedOutput => 0

/-- The value of arg1, zero where the field is ignored (30_encoding.md R53). -/
def Instr.arg1 : Instr → Int
  | .nop => 0
  | .init _ angle2 => angle2
  | .update _ angle2 => angle2
  | .resetIndex _ angle => angle
  | .setCpr _ => 0
  | .setCprAxis _ cpr => cpr
  | .setNumAxes _ => 0
  | .getChannelA _ => 0
  | .getChannelB _ => 0
  | .getIndex _ => 0
  | .getCpr _ => 0
  | .getPositionCount _ => 0
  | .isCalibrated _ => 0
  | .getFormattedOutput => 0

/-- The command word with the given fields: `arg1`, `arg0`, `op` from the top (30_encoding.md R46). -/
def packWord (op : BitVec 8) (arg0 arg1 : Word) : CmdWord := arg1 ++ arg0 ++ op

/-- The encoder (30_encoding.md R46, R51). -/
def encode (i : Instr) : CmdWord :=
  packWord i.mnemonic.opcode (operandField i.arg0) (operandField i.arg1)

end Sys2Proof
end

