-- ==== Sys2Proof/Machine/AxisFunctions.lean ====
section
/-! DEFINITION. The pure integer functions of 40_axis_functions.md: clamping, rounding, the angle-delta mapper and
the wraparound counter. All arithmetic is exact (00_scope.md R10). -/

namespace Sys2Proof.Machine

/-- `clamp(v, lo, hi)` (40_axis_functions.md R58). -/
def clamp (v lo hi : Int) : Int :=
  if v < lo then lo else if hi < v then hi else v

/-- The sign of 40_axis_functions.md R59, for which `sign(0) = 1`. -/
def sign (n : Int) : Int := if n < 0 then -1 else 1

/-- `|v|` (00_scope.md R10). -/
def magnitude (v : Int) : Int := if v < 0 then -v else v

/-- `roundHalfAway(n, d)` (40_axis_functions.md R59). -/
def roundHalfAway (n d : Int) : Int :=
  sign n * ((2 * magnitude n + d) / (2 * d))

/-- `roundHalfEven(n, d)` (40_axis_functions.md R59). -/
def roundHalfEven (n d : Int) : Int :=
  let q := n / d
  let r := n - q * d
  if 2 * r > d then q + 1 else if 2 * r < d then q else q + q % 2

/-- The rounding under a value of `ROUND_TIES` (00_scope.md R9). -/
def roundTiesTo (ties : Config.RoundTies) (n d : Int) : Int :=
  match ties with
  | .away => roundHalfAway n d
  | .even => roundHalfEven n d

/-- `ceil(n / d)` for `d > 0` (00_scope.md R10). -/
def ceilDiv (n d : Int) : Int := -(-n / d)

/-- `normDelta(d)` in its closed form (40_axis_functions.md R60; log entry 13). -/
def normDelta (d : Int) : Int :=
  d - Config.full * ceilDiv (d - Config.half) Config.full

/-- `normDelta(d)` in its loop form (40_axis_functions.md R60), at most `fuel` turns of either loop. -/
def normDeltaLoop : Nat → Int → Int
  | 0, d => d
  | fuel + 1, d =>
    if d > Config.half then normDeltaLoop fuel (d - Config.full)
    else if d ≤ -Config.half then normDeltaLoop fuel (d + Config.full)
    else d

/-- `deltaToCount(d, ppr)` under a value of `ROUND_TIES` (40_axis_functions.md R61; 00_scope.md R9). -/
def deltaToCountTies (ties : Config.RoundTies) (d ppr : Int) : Int :=
  roundTiesTo ties (d * ppr) Config.full

/-- `deltaToCount(d, ppr)` (40_axis_functions.md R61). -/
def deltaToCount (d ppr : Int) : Int :=
  deltaToCountTies Config.roundTies d ppr

/-- `wrapCount(p, k, ppr)`, the Euclidean remainder (40_axis_functions.md R63). -/
def wrapCount (p k ppr : Int) : Int := (p + k) % ppr

end Sys2Proof.Machine
end

