-- ==== Sys2Proof/Machine/State.lean ====
section
/-! DEFINITION. The state of the block as plain data: `numAxes` and the two slot records of 10_state.md, and the
model's own fields for the command port (the clock edges to come, the responses not yet presented, the response
port). The block has no memory (20_memory.md R31), no program counter (10_state.md R27) and no fault (R91). -/

namespace Sys2Proof.Machine

/-- The two axis slots (00_scope.md R4): slot 0, the source's "axis 1", and slot 1, its "axis 2". -/
inductive Slot where
  | slot0
  | slot1
deriving DecidableEq, Repr

/-- The record of one axis slot (10_state.md R14). -/
structure AxisState where
  /-- Cycles per revolution (R16). -/
  cpr : BitVec 14
  /-- Counts per revolution, four times `cpr` (R17). -/
  ppr : BitVec 16
  /-- The wrapped count of quadrature transitions (R18). -/
  positionCount : BitVec 16
  /-- Phase channel A (R19). -/
  channelA : Bool
  /-- Phase channel B (R19). -/
  channelB : Bool
  /-- The index pulse (R20). -/
  index : Bool
  /-- The angle of the last INIT, never read (R22). -/
  startingAngle : BitVec 32
  /-- The last angle sample, raw (R23). -/
  previousAngle : BitVec 32
  /-- The slot has been initialised (R21). -/
  calibrated : Bool
deriving DecidableEq, Repr

/-- What the input ports carry at one rising edge of `clk`, with the implementation's two choices at that edge
(30_encoding.md R44, R45; 70_reset_and_hazards.md R116). Log entries 1, 3 and 5. -/
structure ClockEdge where
  /-- `rst_n`: `false` is reset asserted. -/
  rstN : Bool
  /-- `cfg_cpr`. -/
  cfgCpr : BitVec 32
  /-- `cfg_num_axes`. -/
  cfgNumAxes : BitVec 32
  /-- `cmd_valid`. -/
  cmdValid : Bool
  /-- `cmd_word`. -/
  cmdWord : BitVec 72
  /-- The implementation can accept a command at this edge. -/
  canAccept : Bool
  /-- The implementation presents its oldest response that it has not presented yet. -/
  presents : Bool
deriving DecidableEq, Repr

/-- The state of the block. -/
structure State where
  /-- The number of active slots (10_state.md R15). -/
  numAxes : BitVec 2
  /-- Slot 0. -/
  ax0 : AxisState
  /-- Slot 1. -/
  ax1 : AxisState
  /-- The model's own: the clock edges still to come. Log entry 1. -/
  edges : List ClockEdge
  /-- The model's own: responses of accepted commands not yet presented, oldest first (30_encoding.md R50). -/
  pending : List (BitVec 32)
  /-- The model's own: the response port at the edge just taken, `some v` when `rsp_valid = 1` with
  `rsp_data = v`, `none` when `rsp_valid = 0` (30_encoding.md R44, R50). -/
  rsp : Option (BitVec 32)
deriving DecidableEq, Repr

/-- The block has no fault outcome and no stuck state (60_exceptions.md R91, R96), so there is no constructor. -/
inductive Fault where
deriving DecidableEq, Repr

/-- Why the model gives no next state. -/
inductive Refusal where
  /-- An instruction of the opcode table without a meaning in this model. Safe. Only arms of `exec` could raise
  it, and none does. -/
  | notModelled (mnemonic : String)
deriving DecidableEq, Repr

/-- A slot right after reset with the default `cfg_cpr` of 4096 (10_state.md R29; 00_scope.md R6). -/
def AxisState.reset : AxisState where
  cpr := 4096#14
  ppr := 16384#16
  positionCount := 0#16
  channelA := false
  channelB := false
  index := false
  startingAngle := 0#32
  previousAngle := 0#32
  calibrated := false

/-- The block right after reset with the default configuration inputs (10_state.md R29; 00_scope.md R6; log
entry 7). No clock edge is lined up, no response is owed and none is presented (log entry 8). -/
def State.reset : State where
  numAxes := 2#2
  ax0 := AxisState.reset
  ax1 := AxisState.reset
  edges := []
  pending := []
  rsp := none

end Sys2Proof.Machine
end

