-- ==== Sys2Proof/Machine/Flags.lean ====
section
/-! DEFINITION. How the one-bit fields are computed: the channel pair from the count (40_axis_functions.md R64, R68),
the anchor test (R66) and the index from the count (41_sample_commands.md R71 step 6). -/

namespace Sys2Proof.Machine

/-- `pattern(p)`, the pair of channels A and B of a count (40_axis_functions.md R64). -/
def pattern (p : Int) : Bool × Bool :=
  if p % 4 = 0 then (false, false)
  else if p % 4 = 1 then (true, false)
  else if p % 4 = 2 then (true, true)
  else (false, true)

/-- `nearAnchor(a)`, strict, of the raw angle (40_axis_functions.md R66). -/
def nearAnchor (a : Int) : Bool :=
  decide (magnitude a < Config.tol) || decide (magnitude (a - Config.full) < Config.tol)

/-- `updateQuadratureStates(k)`: a zero change leaves the channels as they are (40_axis_functions.md R68). -/
def AxisState.updateQuadratureStates (x : AxisState) (k : Int) : AxisState :=
  if k = 0 then x
  else { x with
    channelA := (pattern x.positionCount.toNat).1
    channelB := (pattern x.positionCount.toNat).2 }

/-- The index is 1 exactly when the count is 0 (41_sample_commands.md R71 step 6). -/
def AxisState.setIndexFromCount (x : AxisState) : AxisState :=
  { x with index := x.positionCount == 0#16 }

/-- The anchor override's condition: an anchor angle and both channels 0 (41_sample_commands.md R71 step 7, R73). -/
def AxisState.atAnchor (x : AxisState) (a : Int) : Bool :=
  nearAnchor a && !x.channelA && !x.channelB

end Sys2Proof.Machine
end

