-- ==== Sys2Proof/Machine/Operands.lean ====
section
/-! DEFINITION. The operand forms of a meaning: the axis selector (30_encoding.md R49), which slots are active
(40_axis_functions.md R67) and which selectors report (43_output_commands.md). -/

namespace Sys2Proof.Machine

/-- The slot an axis selector names; every value but 0 and 1 is an invalid axis (30_encoding.md R49). -/
def selectSlot (axis : Int) : Option Slot :=
  if axis = 0 then some .slot0 else if axis = 1 then some .slot1 else none

/-- The record of a slot. -/
def State.slot (s : State) : Slot → AxisState
  | .slot0 => s.ax0
  | .slot1 => s.ax1

/-- `S.numAxes = 2`. -/
def State.twoAxes (s : State) : Bool := s.numAxes == 2#2

/-- `active(i)` (40_axis_functions.md R67). -/
def State.active (s : State) : Slot → Bool
  | .slot0 => true
  | .slot1 => s.twoAxes

/-- `reportable(axis)` (43_output_commands.md, its opening). -/
def State.reportable (s : State) (axis : Int) : Bool :=
  decide (axis = 0) || (decide (axis = 1) && s.twoAxes)

/-- The slot a reportable selector names: an invalid axis and an inactive slot 1 name none
(60_exceptions.md R93). -/
def State.activeSlot (s : State) (axis : Int) : Option Slot :=
  match selectSlot axis with
  | some i => if s.active i then some i else none
  | none => none

end Sys2Proof.Machine
end

