-- ==== Sys2Proof/Machine/Ops.lean ====
section
/-! DEFINITION. The shared operations of the meanings: one slot's calibration, advance, anchor override and
resolution change; writing slots; the response; the snapshot and the output pins; reset. The block takes no
exception (60_exceptions.md R96), so there is no operation that takes one. -/

namespace Sys2Proof.Machine

/-- The record of a slot is replaced. -/
def State.setSlot (s : State) (i : Slot) (x : AxisState) : State :=
  match i with
  | .slot0 => { s with ax0 := x }
  | .slot1 => { s with ax1 := x }

/-- Each active slot is replaced by what its function makes of it; an inactive slot 1 is not touched
(41_sample_commands.md R69, R71). -/
def State.mapActive (s : State) (f g : AxisState → AxisState) : State :=
  { s with
    ax0 := f s.ax0
    ax1 := if s.active .slot1 then g s.ax1 else s.ax1 }

/-- `respond(v)`: the command's one response, behind those still owed (30_encoding.md R50; 00_scope.md R11). -/
def State.respond (s : State) (v : BitVec 32) : State :=
  { s with pending := s.pending ++ [v] }

/-- A slot after INIT with the angle `a` (41_sample_commands.md R69). -/
def AxisState.calibrate (x : AxisState) (a : Int) : AxisState :=
  { x with
    startingAngle := BitVec.ofInt 32 a
    previousAngle := BitVec.ofInt 32 a
    positionCount := 0#16
    channelA := false
    channelB := false
    calibrated := true
    index := nearAnchor a }

/-- The count change an angle sample `cur` makes: steps 1 to 3 of UPDATE (41_sample_commands.md R71). -/
def AxisState.countChange (x : AxisState) (cur : Int) : Int :=
  deltaToCount (normDelta (cur - x.previousAngle.toInt)) x.ppr.toNat

/-- The count moved by `k` and wrapped: step 4 of UPDATE (41_sample_commands.md R71). -/
def AxisState.moveCount (x : AxisState) (k : Int) : AxisState :=
  { x with positionCount := BitVec.ofInt 16 (wrapCount x.positionCount.toNat k x.ppr.toNat) }

/-- The anchor override: at an anchor angle with both channels 0 the index is raised and the count cleared
(41_sample_commands.md R71 step 7, R73). -/
def AxisState.anchorOverride (x : AxisState) (a : Int) : AxisState :=
  if x.atAnchor a then { x with index := true, positionCount := 0#16 } else x

/-- The raw sample is kept: step 8 of UPDATE (41_sample_commands.md R71). -/
def AxisState.keepAngle (x : AxisState) (cur : Int) : AxisState :=
  { x with previousAngle := BitVec.ofInt 32 cur }

/-- A slot after one UPDATE with the sample `cur`: steps 1 to 8 in their order (41_sample_commands.md R71). -/
def AxisState.advance (x : AxisState) (cur : Int) : AxisState :=
  let k := x.countChange cur
  ((((x.moveCount k).updateQuadratureStates k).setIndexFromCount).anchorOverride cur).keepAngle cur

/-- The precondition of UPDATE, on the state before it (41_sample_commands.md R70). -/
def State.updateReady (s : State) : Bool :=
  s.ax0.calibrated && (!s.twoAxes || s.ax1.calibrated)

/-- A slot after a resolution change to the operand `c` (42_config_commands.md R75, R76). -/
def AxisState.configure (x : AxisState) (c : Int) : AxisState :=
  { x with
    cpr := BitVec.ofInt 14 (clamp c Config.cprMin Config.cprMax)
    ppr := BitVec.ofInt 16 (4 * clamp c Config.cprMin Config.cprMax)
    positionCount := 0#16
    channelA := false
    channelB := false }

/-- The stored axis count for an operand `n` (42_config_commands.md R77; 70_reset_and_hazards.md R106). -/
def clampAxes (n : Int) : BitVec 2 :=
  BitVec.ofInt 2 (clamp n Config.numAxesMin Config.numAxesMax)

/-- `zext_32` of a bit (00_scope.md R10). -/
def bitWord (b : Bool) : BitVec 32 := (BitVec.ofBool b).setWidth 32

/-- The response of an accessor whose reports are gated by activity: zero for an invalid axis and for an inactive
slot 1 (43_output_commands.md R79 to R81, R83, R84). -/
def State.report (s : State) (axis : Int) (f : AxisState → BitVec 32) : BitVec 32 :=
  match s.activeSlot axis with
  | some i => f (s.slot i)
  | none => 0#32

/-- The response of an accessor that is not gated by activity: zero for an invalid axis only
(43_output_commands.md R82). -/
def State.reportStored (s : State) (axis : Int) (f : AxisState → BitVec 32) : BitVec 32 :=
  match selectSlot axis with
  | some i => f (s.slot i)
  | none => 0#32

/-- The output pins of 30_encoding.md R44. -/
structure Pins where
  /-- `q_a1`. -/
  qA1 : Bool
  /-- `q_b1`. -/
  qB1 : Bool
  /-- `q_a2`. -/
  qA2 : Bool
  /-- `q_b2`. -/
  qB2 : Bool
  /-- `q_idx`. -/
  qIdx : Bool
  /-- `q_two_axes`. -/
  qTwoAxes : Bool
deriving DecidableEq, Repr

/-- The snapshot word of GET_FORMATTED_OUTPUT (43_output_commands.md R85). -/
def State.snapshot (s : State) : BitVec 32 :=
  let two := s.twoAxes
  let a2 := two && s.ax1.channelA
  let b2 := two && s.ax1.channelB
  let idx := s.ax0.index || (two && s.ax1.index)
  (BitVec.ofBool two ++ BitVec.ofBool idx ++ BitVec.ofBool b2 ++ BitVec.ofBool a2
    ++ BitVec.ofBool s.ax0.channelB ++ BitVec.ofBool s.ax0.channelA).setWidth 32

/-- The output pins: bits 0 to 5 of the snapshot of the current state (43_output_commands.md R86). -/
def State.pins (s : State) : Pins where
  qA1 := s.snapshot.getLsbD 0
  qB1 := s.snapshot.getLsbD 1
  qA2 := s.snapshot.getLsbD 2
  qB2 := s.snapshot.getLsbD 3
  qIdx := s.snapshot.getLsbD 4
  qTwoAxes := s.snapshot.getLsbD 5

/-- A slot after reset with the level `cfgCpr` of `cfg_cpr` (70_reset_and_hazards.md R106). -/
def resetSlot (cfgCpr : BitVec 32) : AxisState where
  cpr := BitVec.ofInt 14 (clamp cfgCpr.toInt Config.cprMin Config.cprMax)
  ppr := BitVec.ofInt 16 (4 * clamp cfgCpr.toInt Config.cprMin Config.cprMax)
  positionCount := 0#16
  channelA := false
  channelB := false
  index := false
  startingAngle := 0#32
  previousAngle := 0#32
  calibrated := false

/-- The state a reset edge loads; responses still owed are lost and none is presented
(70_reset_and_hazards.md R105, R106; log entry 6). -/
def State.loadReset (s : State) (cfgCpr cfgNumAxes : BitVec 32) : State :=
  { s with
    numAxes := clampAxes cfgNumAxes.toInt
    ax0 := resetSlot cfgCpr
    ax1 := resetSlot cfgCpr
    pending := []
    rsp := none }

/-- `cmd_ready` at an edge: 0 during reset, else the implementation's choice (30_encoding.md R45). -/
def ClockEdge.cmdReady (e : ClockEdge) : Bool := e.rstN && e.canAccept

/-- A command is accepted at the edge (30_encoding.md R45). -/
def ClockEdge.accepts (e : ClockEdge) : Bool := e.rstN && e.cmdValid && e.cmdReady

/-- The response port at an edge outside reset: the oldest response owed, if the implementation presents it there
(30_encoding.md R50; 70_reset_and_hazards.md R116). -/
def State.present (s : State) (presents : Bool) : State :=
  match presents, s.pending with
  | true, v :: rest => { s with rsp := some v, pending := rest }
  | _, _ => { s with rsp := none }

end Sys2Proof.Machine
end

