-- ==== Sys2Proof/Machine/Output.lean ====
section
/-! DEFINITION. The output commands (43_output_commands.md R79 to R85) and the host-side CSV rendering of the
snapshot word (R87). -/

namespace Sys2Proof.Machine

/-- GET_CHANNEL_A (43_output_commands.md R79). -/
def execGetChannelA (axis : Int) (s : State) : Host.Outcome State Fault Refusal :=
  .next (s.respond (s.report axis fun x => bitWord x.channelA))

/-- GET_CHANNEL_B (43_output_commands.md R80). -/
def execGetChannelB (axis : Int) (s : State) : Host.Outcome State Fault Refusal :=
  .next (s.respond (s.report axis fun x => bitWord x.channelB))

/-- GET_INDEX (43_output_commands.md R81). -/
def execGetIndex (axis : Int) (s : State) : Host.Outcome State Fault Refusal :=
  .next (s.respond (s.report axis fun x => bitWord x.index))

/-- GET_CPR: not gated by activity (43_output_commands.md R82). -/
def execGetCpr (axis : Int) (s : State) : Host.Outcome State Fault Refusal :=
  .next (s.respond (s.reportStored axis fun x => x.cpr.setWidth 32))

/-- GET_POSITION_COUNT (43_output_commands.md R83). -/
def execGetPositionCount (axis : Int) (s : State) : Host.Outcome State Fault Refusal :=
  .next (s.respond (s.report axis fun x => x.positionCount.setWidth 32))

/-- IS_CALIBRATED (43_output_commands.md R84). -/
def execIsCalibrated (axis : Int) (s : State) : Host.Outcome State Fault Refusal :=
  .next (s.respond (s.report axis fun x => bitWord x.calibrated))

/-- GET_FORMATTED_OUTPUT (43_output_commands.md R85). -/
def execGetFormattedOutput (s : State) : Host.Outcome State Fault Refusal :=
  .next (s.respond s.snapshot)

/-- One field of a CSV row (43_output_commands.md R87). -/
def csvDigit (b : Bool) : Char := if b then '1' else '0'

/-- The fields of the CSV row of a snapshot word: three for one axis, five for two (43_output_commands.md R87). -/
def csvFields (w : BitVec 32) : List Char :=
  if w.getLsbD 5 then
    [csvDigit (w.getLsbD 0), csvDigit (w.getLsbD 1), csvDigit (w.getLsbD 2), csvDigit (w.getLsbD 3),
      csvDigit (w.getLsbD 4)]
  else [csvDigit (w.getLsbD 0), csvDigit (w.getLsbD 1), csvDigit (w.getLsbD 4)]

/-- The CSV row of a snapshot word as characters: its fields with commas between them (43_output_commands.md R87). -/
def csvChars (w : BitVec 32) : List Char := (csvFields w).intersperse ','

/-- `csv(w)` (43_output_commands.md R87). -/
def csv (w : BitVec 32) : String := String.ofList (csvChars w)

end Sys2Proof.Machine
end

