-- ==== Sys2Proof/Machine/Sample.lean ====
section
/-! DEFINITION. The sample commands INIT, UPDATE and RESET_INDEX (41_sample_commands.md). -/

namespace Sys2Proof.Machine

/-- INIT (41_sample_commands.md R69). -/
def execInit (angle1 angle2 : Int) (s : State) : Host.Outcome State Fault Refusal :=
  .next ((s.mapActive (fun x => x.calibrate angle1) (fun x => x.calibrate angle2)).respond 0#32)

/-- UPDATE (41_sample_commands.md R70 to R72). -/
def execUpdate (angle1 angle2 : Int) (s : State) : Host.Outcome State Fault Refusal :=
  if s.updateReady then
    .next ((s.mapActive (fun x => x.advance angle1) (fun x => x.advance angle2)).respond 0#32)
  else .next (s.respond 0#32)

/-- RESET_INDEX (41_sample_commands.md R73). -/
def execResetIndex (axis angle : Int) (s : State) : Host.Outcome State Fault Refusal :=
  match s.activeSlot axis with
  | some i => .next ((s.setSlot i ((s.slot i).anchorOverride angle)).respond 0#32)
  | none => .next (s.respond 0#32)

end Sys2Proof.Machine
end

