-- ==== Sys2Proof/Machine/Settings.lean ====
section
/-! DEFINITION. The configuration commands SET_CPR, SET_CPR_AXIS, SET_NUM_AXES and NOP (42_config_commands.md), and
what the block does with a reserved opcode (30_encoding.md R52). -/

namespace Sys2Proof.Machine

/-- SET_CPR: both slots, active or not (42_config_commands.md R75). -/
def execSetCpr (cpr : Int) (s : State) : Host.Outcome State Fault Refusal :=
  .next (((s.setSlot .slot0 (s.ax0.configure cpr)).setSlot .slot1 (s.ax1.configure cpr)).respond 0#32)

/-- SET_CPR_AXIS: one slot, active or not; an invalid axis changes nothing (42_config_commands.md R76). -/
def execSetCprAxis (axis cpr : Int) (s : State) : Host.Outcome State Fault Refusal :=
  match selectSlot axis with
  | some i => .next ((s.setSlot i ((s.slot i).configure cpr)).respond 0#32)
  | none => .next (s.respond 0#32)

/-- SET_NUM_AXES (42_config_commands.md R77). -/
def execSetNumAxes (n : Int) (s : State) : Host.Outcome State Fault Refusal :=
  .next ({ s with numAxes := clampAxes n }.respond 0#32)

/-- NOP (42_config_commands.md R78). -/
def execNop (s : State) : Host.Outcome State Fault Refusal :=
  .next (s.respond 0#32)

/-- A reserved opcode is accepted, changes nothing and is answered with 0 (30_encoding.md R52; log entry 12). -/
def execReserved (s : State) : Host.Outcome State Fault Refusal :=
  .next (s.respond 0#32)

end Sys2Proof.Machine
end

