-- ==== Sys2Proof/Machine/Dispatch.lean ====
section
/-! DEFINITION. One arm per command of the opcode table (30_encoding.md R51). -/

namespace Sys2Proof.Machine

/-- The effect of an accepted command (20_memory.md R37). -/
def exec (i : Instr) (s : State) : Host.Outcome State Fault Refusal :=
  match i with
  | .nop => Sys2Proof.Machine.execNop s
  | .init angle1 angle2 => Sys2Proof.Machine.execInit angle1 angle2 s
  | .update angle1 angle2 => Sys2Proof.Machine.execUpdate angle1 angle2 s
  | .resetIndex axis angle => Sys2Proof.Machine.execResetIndex axis angle s
  | .setCpr cpr => Sys2Proof.Machine.execSetCpr cpr s
  | .setCprAxis axis cpr => Sys2Proof.Machine.execSetCprAxis axis cpr s
  | .setNumAxes n => Sys2Proof.Machine.execSetNumAxes n s
  | .getChannelA axis => Sys2Proof.Machine.execGetChannelA axis s
  | .getChannelB axis => Sys2Proof.Machine.execGetChannelB axis s
  | .getIndex axis => Sys2Proof.Machine.execGetIndex axis s
  | .getCpr axis => Sys2Proof.Machine.execGetCpr axis s
  | .getPositionCount axis => Sys2Proof.Machine.execGetPositionCount axis s
  | .isCalibrated axis => Sys2Proof.Machine.execIsCalibrated axis s
  | .getFormattedOutput => Sys2Proof.Machine.execGetFormattedOutput s

end Sys2Proof.Machine
end

