-- ==== Sys2Proof/Machine/Port.lean ====
section
/-! DEFINITION. The command port: what one rising edge of `clk` does (30_encoding.md R45; 70_reset_and_hazards.md
R105), and the edges a host drives. -/

namespace Sys2Proof.Machine

/-- An accepted command word is decoded and executed; a reserved opcode is handled by name
(30_encoding.md R51, R52). -/
def execWord (w : BitVec 72) (s : State) : Host.Outcome State Fault Refusal :=
  match decode w with
  | .ok i => exec i s
  | .error _ => execReserved s

/-- One rising edge: reset is loaded, or a response may be presented and a command may be accepted
(30_encoding.md R45, R50; 70_reset_and_hazards.md R105). -/
def clockEdge (e : ClockEdge) (s : State) : Host.Outcome State Fault Refusal :=
  if !e.rstN then .next (s.loadReset e.cfgCpr e.cfgNumAxes)
  else if e.accepts then execWord e.cmdWord (s.present e.presents)
  else .next (s.present e.presents)

/-- The next edge lined up is taken; with none lined up no time passes and the block holds its state
(60_exceptions.md R104; log entry 2). -/
def takeEdge (s : State) : Host.Outcome State Fault Refusal :=
  match s.edges with
  | [] => .next s
  | e :: rest => clockEdge e { s with edges := rest }

/-- An edge at which the block accepts the command word `w` and presents no response. -/
def acceptEdge (w : BitVec 72) : ClockEdge where
  rstN := true
  cfgCpr := Config.cprDefault
  cfgNumAxes := Config.numAxesDefault
  cmdValid := true
  cmdWord := w
  canAccept := true
  presents := false

/-- The edge at which `w` is accepted comes next, ahead of those already lined up. -/
def State.offer (s : State) (w : BitVec 72) : State :=
  { s with edges := acceptEdge w :: s.edges }

end Sys2Proof.Machine
end

