-- ==== Sys2Proof/Machine/Assembler.lean ====
section
/-! DEFINITION. The command syntax of 30_encoding.md R55 and R56, read as characters: one command a line, total on
any line, rejecting by name. It is the host's tool; no step of the machine calls it. Log entry 19. -/

namespace Sys2Proof.Machine

/-- Why a line is an assembly error (30_encoding.md R56). -/
inductive AsmError where
  /-- The mnemonic is not in the table of R51. -/
  | unknownMnemonic
  /-- An operand is missing, or there is one too many. -/
  | wrongOperandCount
  /-- An operand is no literal of its kind (too many fractional digits included). -/
  | badLiteral
  /-- The literal's value does not fit its 32-bit field. -/
  | outOfRange
deriving DecidableEq, Repr

/-- The mnemonic as the opcode table spells it (30_encoding.md R51). -/
def mnemonicName : Mnemonic → String
  | .nop => "NOP"
  | .init => "INIT"
  | .update => "UPDATE"
  | .resetIndex => "RESET_INDEX"
  | .setCpr => "SET_CPR"
  | .setCprAxis => "SET_CPR_AXIS"
  | .setNumAxes => "SET_NUM_AXES"
  | .getChannelA => "GET_CHANNEL_A"
  | .getChannelB => "GET_CHANNEL_B"
  | .getIndex => "GET_INDEX"
  | .getCpr => "GET_CPR"
  | .getPositionCount => "GET_POSITION_COUNT"
  | .isCalibrated => "IS_CALIBRATED"
  | .getFormattedOutput => "GET_FORMATTED_OUTPUT"

/-- Every mnemonic, in the order of 30_encoding.md R51. -/
def allMnemonics : List Mnemonic :=
  [.nop, .init, .update, .resetIndex, .setCpr, .setCprAxis, .setNumAxes, .getChannelA, .getChannelB, .getIndex,
    .getCpr, .getPositionCount, .isCalibrated, .getFormattedOutput]

/-- The mnemonic with the given spelling. -/
def findMnemonic (text : List Char) : Option Mnemonic :=
  allMnemonics.find? fun m => (mnemonicName m).toList == text

/-- The value of a decimal digit. -/
def decimalDigit (c : Char) : Option Nat :=
  if '0'.toNat ≤ c.toNat ∧ c.toNat ≤ '9'.toNat then some (c.toNat - '0'.toNat) else none

/-- The value of a hexadecimal digit, in either case. DESIGN CHOICE: R56 does not name the case (unsafe; log entry 19). -/
def hexDigit (c : Char) : Option Nat :=
  if 'a'.toNat ≤ c.toNat ∧ c.toNat ≤ 'f'.toNat then some (c.toNat - 'a'.toNat + 10)
  else if 'A'.toNat ≤ c.toNat ∧ c.toNat ≤ 'F'.toNat then some (c.toNat - 'A'.toNat + 10)
  else decimalDigit c

/-- The number that digits in a base write, `acc` being the value of those already read. -/
def digitsFrom (base : Nat) (digit : Char → Option Nat) : Nat → List Char → Option Nat
  | acc, [] => some acc
  | acc, c :: cs =>
    match digit c with
    | some v => digitsFrom base digit (base * acc + v) cs
    | none => none

/-- A number of at least one digit. -/
def readDigits (base : Nat) (digit : Char → Option Nat) (text : List Char) : Option Nat :=
  if text = [] then none else digitsFrom base digit 0 text

/-- A literal with an optional minus sign, its magnitude read by `read`. -/
def readSigned (read : List Char → Option Nat) (text : List Char) : Option Int :=
  match text with
  | '-' :: rest => (read rest).map fun v => -(v : Int)
  | _ => (read text).map fun v => (v : Int)

/-- A signed decimal integer or a `0x` hexadecimal integer (30_encoding.md R56). -/
def readInteger (text : List Char) : Option Int :=
  match text with
  | '0' :: 'x' :: rest => (readDigits 16 hexDigit rest).map fun v => (v : Int)
  | _ => readSigned (readDigits 10 decimalDigit) text

/-- Unsigned decimal degrees in millionths: at most 6 fractional digits (30_encoding.md R56). -/
def readDegrees (text : List Char) : Option Nat :=
  let whole := text.takeWhile (· != '.')
  match text.dropWhile (· != '.') with
  | [] => (readDigits 10 decimalDigit whole).map fun d => d * 1000000
  | _ :: fraction =>
    if fraction.length ≤ 6 then
      match readDigits 10 decimalDigit whole, readDigits 10 decimalDigit fraction with
      | some d, some f => some (d * 1000000 + f * 10 ^ (6 - fraction.length))
      | _, _ => none
    else none

/-- An angle in degrees, or in raw units after `u` (30_encoding.md R56). DESIGN CHOICE: R56 gives no base for the integer
after `u`, and the model reads a signed decimal only, so `u0x10` is no literal (unsafe; log entry 19). -/
def readAngle (text : List Char) : Option Int :=
  match text with
  | 'u' :: rest => readSigned (readDigits 10 decimalDigit) rest
  | _ => readSigned readDegrees text

/-- The value of an operand literal of a kind (30_encoding.md R56). -/
def readOperand (kind : OperandKind) (text : List Char) : Except AsmError Int :=
  let value := match kind with
    | .angle => readAngle text
    | .integer => readInteger text
    | .axis => readInteger text
  match value with
  | none => .error .badLiteral
  | some v => if fitsWord v then .ok v else .error .outOfRange

/-- The values of a line's operands, one for each kind the format carries (30_encoding.md R55). -/
def readOperands : List OperandKind → List (List Char) → Except AsmError (List Int)
  | [], [] => .ok []
  | kind :: kinds, text :: texts =>
    match readOperand kind text with
    | .error e => .error e
    | .ok v =>
      match readOperands kinds texts with
      | .error e => .error e
      | .ok vs => .ok (v :: vs)
  | _, _ => .error .wrongOperandCount

/-- The pieces of a text between occurrences of `, ` (30_encoding.md R55). -/
def splitOperands : List Char → List (List Char)
  | [] => [[]]
  | ',' :: ' ' :: rest => [] :: splitOperands rest
  | c :: rest =>
    match splitOperands rest with
    | [] => [[c]]
    | piece :: pieces => (c :: piece) :: pieces

/-- The text of a line before its comment, without spaces at either end (30_encoding.md R55). -/
def commandText (line : List Char) : List Char :=
  (((line.takeWhile (· != ';')).dropWhile (· == ' ')).reverse.dropWhile (· == ' ')).reverse

/-- The command a line writes, nothing for a line without one (30_encoding.md R55, R56). -/
def assembleChars (line : List Char) : Except AsmError (Option Instr) :=
  let text := commandText line
  if text = [] then .ok none
  else
    match findMnemonic (text.takeWhile (· != ' ')) with
    | none => .error .unknownMnemonic
    | some m =>
      let rest := (text.dropWhile (· != ' ')).dropWhile (· == ' ')
      match readOperands m.format.operands (if rest = [] then [] else splitOperands rest) with
      | .error e => .error e
      | .ok vs => .ok (some (Instr.ofFields m (vs.getD 0 0) (vs.getD 1 0)))

/-- The command a line writes. -/
def assemble (line : String) : Except AsmError (Option Instr) := assembleChars line.toList

/-- The command word a line writes. -/
def assembleWord (line : String) : Option CmdWord :=
  match assemble line with
  | .ok (some i) => some (encode i)
  | _ => none

end Sys2Proof.Machine
end

