-- ==== Sys2Proof/Safety.lean ====
section
/-! DEFINITION. The terms in which claims about the machine are stated: the invariants of 10_state.md, the
architectural part of a state, runs of commands, and what a transition-counting decoder sees of two snapshots
(43_output_commands.md R89, R90). -/

namespace Sys2Proof.Machine

/-- The invariant of one slot: the resolution in its bounds, the counts per revolution four times it, the count
below them, the channels the pattern of the count (10_state.md R24, R25). -/
abbrev AxisState.Inv (x : AxisState) : Prop :=
  1 ≤ x.cpr.toNat ∧ x.cpr.toNat ≤ 9000 ∧ x.ppr.toNat = 4 * x.cpr.toNat ∧
    x.positionCount.toNat < x.ppr.toNat ∧ (x.channelA, x.channelB) = pattern x.positionCount.toNat

/-- The invariant of the block (10_state.md R24, R25). -/
abbrev State.Inv (s : State) : Prop :=
  s.ax0.Inv ∧ s.ax1.Inv ∧ (s.numAxes = 1#2 ∨ s.numAxes = 2#2)

/-- An index pulse is shown only while the count is zero, in both slots. -/
abbrev State.IndexAtZero (s : State) : Prop :=
  (s.ax0.index = true → s.ax0.positionCount = 0#16) ∧ (s.ax1.index = true → s.ax1.positionCount = 0#16)

/-- The outcome is a next state. -/
def isNext (o : Host.Outcome State Fault Refusal) : Bool :=
  match o with
  | .next _ => true
  | .fault _ => false
  | .refused _ => false

/-- The next state of an outcome. -/
def nextState (o : Host.Outcome State Fault Refusal) : Option State :=
  match o with
  | .next t => some t
  | .fault _ => none
  | .refused _ => none

/-- The two states have the same architectural state `S` (10_state.md R13). -/
abbrev State.SameArch (s t : State) : Prop :=
  s.numAxes = t.numAxes ∧ s.ax0 = t.ax0 ∧ s.ax1 = t.ax1

/-- The record without `startingAngle` (10_state.md R22). -/
def AxisState.forgetStart (x : AxisState) : AxisState := { x with startingAngle := 0#32 }

/-- The state without the two `startingAngle` fields (10_state.md R22). -/
def State.forgetStart (s : State) : State :=
  { s with ax0 := s.ax0.forgetStart, ax1 := s.ax1.forgetStart }

/-- The state after the commands of a list, in order (20_memory.md R38). -/
def foldCommands : List (BitVec 72) → State → Option State
  | [], s => some s
  | w :: ws, s =>
    match nextState (execWord w s) with
    | some t => foldCommands ws t
    | none => none

/-- The responses the host sees in the first steps of a run, in order. -/
def presented : Nat → State → List (BitVec 32)
  | 0, _ => []
  | k + 1, s =>
    match nextState (step s) with
    | some t => t.rsp.toList ++ presented k t
    | none => []

/-- Every word with the opcode `op` decodes to the command `f` makes of its two operand fields
(30_encoding.md R46, R51). -/
abbrev OpcodeSelects (op : BitVec 8) (f : Int → Int → Instr) : Prop :=
  ∀ w : BitVec 72, w.extractLsb' 0 8 = op →
    decode w = .ok (f (w.extractLsb' 8 32).toInt (w.extractLsb' 40 32).toInt)

/-- The angle is within 0.001 degree of 0 or of 360 degrees (40_axis_functions.md R66). -/
abbrev AnchorAngle (a : Int) : Prop :=
  (-1000 < a ∧ a < 1000) ∨ (359999000 < a ∧ a < 360001000)

/-- `q` is the integer nearest to `n / d`, a tie going to the one farther from zero
(40_axis_functions.md R59). -/
abbrev NearestTiesAway (n d q : Int) : Prop :=
  2 * |n - q * d| ≤ d ∧ (2 * |n - q * d| = d → |n| < |q * d|)

/-- `y` is the slot `x` after an UPDATE with the raw sample `cur`: the eight steps of 41_sample_commands.md R71, the
delta, the count change and the wrapped count given by what they must satisfy. -/
abbrev AdvancesTo (x : AxisState) (cur : Int) (y : AxisState) : Prop :=
  ∃ d k p : Int,
    (-180000000 < d ∧ d ≤ 180000000 ∧ (360000000 : Int) ∣ cur - x.previousAngle.toInt - d) ∧
    NearestTiesAway (d * x.ppr.toNat) 360000000 k ∧
    (0 ≤ p ∧ p < x.ppr.toNat ∧ (x.ppr.toNat : Int) ∣ x.positionCount.toNat + k - p) ∧
    (k = 0 → y.channelA = x.channelA ∧ y.channelB = x.channelB) ∧
    (k ≠ 0 → (y.channelA, y.channelB) = pattern p) ∧
    (AnchorAngle cur ∧ y.channelA = false ∧ y.channelB = false →
      y.positionCount = 0#16 ∧ y.index = true) ∧
    (¬(AnchorAngle cur ∧ y.channelA = false ∧ y.channelB = false) →
      (y.positionCount.toNat : Int) = p ∧ (y.index = true ↔ p = 0)) ∧
    y.previousAngle = BitVec.ofInt 32 cur ∧
    y.cpr = x.cpr ∧ y.ppr = x.ppr ∧ y.startingAngle = x.startingAngle ∧ y.calibrated = x.calibrated

/-- `y` is the slot `x` after a resolution change to the operand `c` (42_config_commands.md R75, R76). -/
abbrev ConfiguresTo (x : AxisState) (c : Int) (y : AxisState) : Prop :=
  (y.cpr.toNat : Int) = max 1 (min c 9000) ∧ y.ppr.toNat = 4 * y.cpr.toNat ∧ y.positionCount = 0#16 ∧
    y.channelA = false ∧ y.channelB = false ∧ y.index = x.index ∧ y.startingAngle = x.startingAngle ∧
    y.previousAngle = x.previousAngle ∧ y.calibrated = x.calibrated

/-- Every field of the slot that the selector `axis` names is written only by the commands that 10_state.md R16 to
R23 name as its writers: the slot is `x` before the command `i` and `y` after it. -/
abbrev WrittenOnlyBy (i : Instr) (axis : Int) (x y : AxisState) : Prop :=
  (y.cpr ≠ x.cpr ∨ y.ppr ≠ x.ppr → (∃ c, i = .setCpr c) ∨ ∃ c, i = .setCprAxis axis c) ∧
  (y.positionCount ≠ x.positionCount → (∃ a b, i = .init a b) ∨ (∃ a b, i = .update a b) ∨
    (∃ a, i = .resetIndex axis a) ∨ (∃ c, i = .setCpr c) ∨ ∃ c, i = .setCprAxis axis c) ∧
  (y.channelA ≠ x.channelA ∨ y.channelB ≠ x.channelB → (∃ a b, i = .init a b) ∨ (∃ a b, i = .update a b) ∨
    (∃ c, i = .setCpr c) ∨ ∃ c, i = .setCprAxis axis c) ∧
  (y.index ≠ x.index → (∃ a b, i = .init a b) ∨ (∃ a b, i = .update a b) ∨ ∃ a, i = .resetIndex axis a) ∧
  (y.calibrated ≠ x.calibrated ∨ y.startingAngle ≠ x.startingAngle → ∃ a b, i = .init a b) ∧
  (y.previousAngle ≠ x.previousAngle → (∃ a b, i = .init a b) ∨ ∃ a b, i = .update a b)

/-- The state `t` differs from `s` at most in the architectural state, and the response `v` stands behind those
still owed. -/
abbrev Answers (s t : State) (v : BitVec 32) : Prop :=
  t.pending = s.pending ++ [v] ∧ t.edges = s.edges ∧ t.rsp = s.rsp

/-- The row of the phase table a channel pair is (40_axis_functions.md R64). -/
def phaseRow (ab : Bool × Bool) : Int :=
  match ab with
  | (false, false) => 0
  | (true, false) => 1
  | (true, true) => 2
  | (false, true) => 3

/-- What a decoder reads from two successive snapshots: a forward step, a reverse step, no step, or, where both
channels changed, nothing it can tell (43_output_commands.md R89, R90). -/
def observedStep (before after : Bool × Bool) : Option Int :=
  let turn := (phaseRow after - phaseRow before) % 4
  if turn = 0 then some 0 else if turn = 1 then some 1 else if turn = 3 then some (-1) else none

end Sys2Proof.Machine
end

