-- ==== Sys2Proof/Certificates/Slice0/Obligations.lean ====
section
/-! DEFINITION. The statements about the block, from the numbered rules of spec/. -/

open Sys2Proof Sys2Proof.Machine

/-! ### The command port and the step -/

/-- At an edge that accepts a word (30_encoding.md R45) which decodes to a command, the step is the command's effect,
after the response port has been served and the edge taken off the list; so for a word that stands for a row of
the opcode table. That the effect falls at the accepting edge itself is the model's choice of log entry 4, and what
the step adds around `exec` that of log entries 1 and 5. -/
def Obligations.StepRunsDecodedCommand : Prop :=
  (∀ (s : State) (e : ClockEdge) (rest : List ClockEdge) (i : Instr),
    s.edges = e :: rest → e.rstN = true → e.cmdValid = true → e.canAccept = true → decode e.cmdWord = .ok i →
      step s = exec i (State.present { s with edges := rest } e.presents)) ∧
  (∀ (s : State) (nbits w : Nat) (i : Instr),
    decodeTableWord nbits w = some i → step (s.withFetchWord nbits w) = exec i { s with rsp := none })

/-- The handshake (30_encoding.md R45): `cmd_ready` is 0 in reset; outside reset an edge with `cmd_valid` and
`cmd_ready` executes the word once, and any other edge executes no command and changes no architectural state,
whatever `cmd_word` carries, and the edge is used up; in reset neither `cmd_word` nor `cmd_valid` matters. That the
execution falls at the accepting edge itself is the model's choice of log entry 4; that edges are a list used up one a
step, and what the response port does at them, that of log entries 1, 3 and 5. -/
def Obligations.CommandsAreTakenOnlyByHandshake : Prop :=
  ∀ (s : State) (e : ClockEdge) (rest : List ClockEdge), s.edges = e :: rest →
    (e.rstN = false → e.cmdReady = false) ∧
    (e.rstN = true ∧ e.cmdValid = true ∧ e.cmdReady = true →
      ∃ t v, step s = .next t ∧ execWord e.cmdWord (State.present { s with edges := rest } e.presents) = .next t ∧
        t.edges = rest ∧ t.pending = (State.present { s with edges := rest } e.presents).pending ++ [v]) ∧
    (e.rstN = true ∧ ¬(e.cmdValid = true ∧ e.cmdReady = true) →
      ∃ t, step s = .next t ∧ t.SameArch s ∧ t.edges = rest ∧ t.rsp.toList ++ t.pending = s.pending ∧
        ∀ w, step { s with edges := { e with cmdWord := w } :: rest } = .next t) ∧
    (e.rstN = false → ∀ w v, step { s with edges := { e with cmdWord := w, cmdValid := v } :: rest } = step s)

/-- The response port (30_encoding.md R50): at an edge outside reset at which the implementation presents and a response
is owed, the host sees the oldest one, which is owed no more; at any other edge outside reset it sees none and what is
owed stays. In both cases the one response of a command accepted at the edge joins those owed, behind them. How the
port is served at an edge is the model's choice (log entries 3, 4 and 5). -/
def Obligations.ResponsePortShowsOldestOwed : Prop :=
  ∀ (s : State) (e : ClockEdge) (rest : List ClockEdge), s.edges = e :: rest → e.rstN = true →
    ∃ (t : State) (new : List (BitVec 32)), step s = .next t ∧
      new.length = (if e.cmdValid = true ∧ e.cmdReady = true then 1 else 0) ∧
      (∀ v owed, e.presents = true → s.pending = v :: owed → t.rsp = some v ∧ t.pending = owed ++ new) ∧
      (e.presents = false ∨ s.pending = [] → t.rsp = none ∧ t.pending = s.pending ++ new)

/-- With no clock edge to come the block holds its state (60_exceptions.md R104); that such a step exists is the model's
choice (log entry 2). -/
def Obligations.NoClockEdgeHoldsTheState : Prop :=
  ∀ s : State, s.edges = [] → step s = .next s

/-- No command and no edge traps, faults, halts or stalls, in any state (60_exceptions.md R91). -/
def Obligations.NothingEverTrapsOrStalls : Prop :=
  (∀ (i : Instr) (s : State), ∃ t, exec i s = .next t) ∧ ∀ s : State, ∃ t, step s = .next t

/-- Every command is answered exactly once, behind the responses still owed, and every write command with 0
(30_encoding.md R50). The queue of responses owed is the model's choice (log entry 5). -/
def Obligations.EveryCommandAnswersOnce : Prop :=
  ∀ (i : Instr) (s : State), ∃ t v, exec i s = .next t ∧ Answers s t v ∧
    ((∃ a b, i = .init a b) ∨ (∃ a b, i = .update a b) ∨ (∃ a b, i = .resetIndex a b) ∨ (∃ c, i = .setCpr c) ∨
      (∃ a c, i = .setCprAxis a c) ∨ (∃ n, i = .setNumAxes n) ∨ i = .nop → v = 0#32)

/-- From any state, a run over the edges lined up, none of them a reset, leaves the architectural state that the
fold of the accepted commands gives, in acceptance order, and the host has seen or is still owed exactly the
fold's responses in that order (20_memory.md R38; 30_encoding.md R50), whatever the implementation chooses. Edges,
acceptance and presentation are modelled as log entries 1, 3, 4 and 5 say. -/
def Obligations.RunIsFoldOfAcceptedCommands : Prop :=
  ∀ s : State, (∀ e ∈ s.edges, e.rstN = true) →
    ∃ t u, Host.Core.run Sys2Proof.core s.edges.length s = .next t ∧
      foldCommands ((s.edges.filter ClockEdge.accepts).map ClockEdge.cmdWord) s = some u ∧
      t.SameArch u ∧ presented s.edges.length s ++ t.pending = u.pending ∧ t.edges = []

/-! ### Reset and invariants -/

/-- A reset edge, from any state, loads the reset state computed from the levels of `cfg_cpr` and
`cfg_num_axes` (10_state.md R29; 70_reset_and_hazards.md R106); no response is presented or still owed, which is
how the model reads 70_reset_and_hazards.md R105 (log entry 6). -/
def Obligations.ResetEdgeLoadsResetState : Prop :=
  ∀ (s : State) (e : ClockEdge) (rest : List ClockEdge), s.edges = e :: rest → e.rstN = false →
    ∃ t, step s = .next t ∧
      (t.numAxes.toNat : Int) = max 1 (min e.cfgNumAxes.toInt 2) ∧
      (∀ x, x = t.ax0 ∨ x = t.ax1 →
        (x.cpr.toNat : Int) = max 1 (min e.cfgCpr.toInt 9000) ∧ x.ppr.toNat = 4 * x.cpr.toNat ∧
        x.positionCount = 0#16 ∧ x.channelA = false ∧ x.channelB = false ∧ x.index = false ∧
        x.startingAngle = 0#32 ∧ x.previousAngle = 0#32 ∧ x.calibrated = false) ∧
      t.edges = rest ∧ t.pending = [] ∧ t.rsp = none

/-- The model's reset state is the one a reset edge with the default configuration inputs loads. That `State.reset`
takes the defaults 4096 and 2 is the model's choice (log entry 7). -/
def Obligations.ResetStateIsDefaultReset : Prop :=
  ∀ (s : State) (e : ClockEdge) (rest : List ClockEdge), s.edges = e :: rest → e.rstN = false →
    e.cfgCpr = 4096#32 → e.cfgNumAxes = 2#32 → ∃ t, step s = .next t ∧ t.SameArch State.reset

/-- The invariants hold at `State.reset`, the reset state of the default configuration inputs, which is the model's
choice (log entry 7): the count and channel invariant of 10_state.md R24 and R25, and that no index is shown away from
count 0, since R29 resets both indices to 0. -/
def Obligations.ResetStateSatisfiesInvariants : Prop := State.reset.Inv ∧ State.reset.IndexAtZero

/-- Every step keeps the invariant: the resolution in its bounds, the counts per revolution four times it, the count
below them, the channels the pattern of the count, one or two active slots (10_state.md R24, R25). -/
def Obligations.EveryStepKeepsCountAndChannels : Prop :=
  ∀ s t : State, s.Inv → step s = .next t → t.Inv

/-- Every step keeps the index pulse at count zero: a slot that shows an index has count 0. -/
def Obligations.EveryStepKeepsIndexAtZeroCount : Prop :=
  ∀ s t : State, s.IndexAtZero → step s = .next t → t.IndexAtZero

/-! ### Encoding -/

/-- Decoding the word of a well-formed command gives the command back (30_encoding.md R46, R51). -/
def Obligations.DecodeOfEncodeIsIdentity : Prop :=
  ∀ i : Instr, WellFormed i → decode (encode i) = .ok i

/-- A decoded command is well formed, and its encoding is the word it came from with the ignored fields zeroed
(30_encoding.md R47 to R49, R53). -/
def Obligations.EncodeOfDecodeZeroesIgnoredFields : Prop :=
  ∀ (w : BitVec 72) (i : Instr), decode w = .ok i → WellFormed i ∧
    encode i =
      (if i.mnemonic.format.operands.length = 2 then w.extractLsb' 40 32 else 0#32) ++
      (if 1 ≤ i.mnemonic.format.operands.length then w.extractLsb' 8 32 else 0#32) ++ w.extractLsb' 0 8

/-- The opcode table (30_encoding.md R51): each of the fourteen opcodes, matched on all 8 bits, selects its command
with its operand fields, and the other fields are not read. -/
def Obligations.OpcodeTableSelectsEachCommand : Prop :=
  OpcodeSelects 0x00#8 (fun _ _ => .nop) ∧ OpcodeSelects 0x01#8 (fun a b => .init a b) ∧
  OpcodeSelects 0x02#8 (fun a b => .update a b) ∧ OpcodeSelects 0x03#8 (fun a b => .resetIndex a b) ∧
  OpcodeSelects 0x04#8 (fun a _ => .setCpr a) ∧ OpcodeSelects 0x05#8 (fun a b => .setCprAxis a b) ∧
  OpcodeSelects 0x06#8 (fun a _ => .setNumAxes a) ∧ OpcodeSelects 0x10#8 (fun a _ => .getChannelA a) ∧
  OpcodeSelects 0x11#8 (fun a _ => .getChannelB a) ∧ OpcodeSelects 0x12#8 (fun a _ => .getIndex a) ∧
  OpcodeSelects 0x13#8 (fun a _ => .getCpr a) ∧ OpcodeSelects 0x14#8 (fun a _ => .getPositionCount a) ∧
  OpcodeSelects 0x15#8 (fun a _ => .isCalibrated a) ∧ OpcodeSelects 0x18#8 (fun _ _ => .getFormattedOutput)

/-- A reserved opcode acts exactly as NOP: accepted, architectural state unchanged, response 0 (30_encoding.md R52).
That the decoder answers an error which names the opcode is the model's choice (log entry 12). -/
def Obligations.ReservedOpcodeActsAsNop : Prop :=
  ∀ (w : BitVec 72) (s : State),
    (7 ≤ (w.extractLsb' 0 8).toNat ∧ (w.extractLsb' 0 8).toNat ≤ 15) ∨ (w.extractLsb' 0 8).toNat = 22 ∨
      (w.extractLsb' 0 8).toNat = 23 ∨ 25 ≤ (w.extractLsb' 0 8).toNat →
    decode w = .error (.reservedOpcode (w.extractLsb' 0 8)) ∧
      execWord w s = .next { s with pending := s.pending ++ [0#32] } ∧ execWord w s = exec .nop s

/-- Words of the encoding examples of 30_encoding.md §5 decode to the commands they stand for. -/
def Obligations.SpecWordsDecode : Prop :=
  decode (0x0D693A40#32 ++ 0x02AEA540#32 ++ 0b00000001#8) = .ok (.init 45000000 225000000) ∧
  decode (0x00000000#32 ++ 0xFFFFFE0C#32 ++ 0b00000010#8) = .ok (.update (-500) 0) ∧
  decode (0x1575280C#32 ++ 0x00000001#32 ++ 0b00000011#8) = .ok (.resetIndex 1 359999500) ∧
  decode (0x00000000#32 ++ 0x0001869F#32 ++ 0b00000100#8) = .ok (.setCpr 99999) ∧
  decode (0x00000000#32 ++ 0xFFFFFFF9#32 ++ 0b00000110#8) = .ok (.setNumAxes (-7)) ∧
  decode (0x00000000#32 ++ 0x00000001#32 ++ 0b00010101#8) = .ok (.isCalibrated 1) ∧
  decode (0x00000000#32 ++ 0x00000000#32 ++ 0b00011000#8) = .ok .getFormattedOutput

/-- The byte-serial form (20_memory.md R34): byte k of a command word is bits `8k+7` to `8k` and the decoder reads
the nine bytes as it reads the word; the response goes as four bytes, least significant first. -/
def Obligations.WrapperMovesWordsLittleEndian : Prop :=
  (∀ w : BitVec 72,
    commandBytes w = [w.extractLsb' 0 8, w.extractLsb' 8 8, w.extractLsb' 16 8, w.extractLsb' 24 8,
      w.extractLsb' 32 8, w.extractLsb' 40 8, w.extractLsb' 48 8, w.extractLsb' 56 8, w.extractLsb' 64 8] ∧
    decodeBytes (commandBytes w) = decode w) ∧
  ∀ v : BitVec 32,
    responseBytes v = [v.extractLsb' 0 8, v.extractLsb' 8 8, v.extractLsb' 16 8, v.extractLsb' 24 8]

/-! ### Axis functions -/

/-- `clamp` (40_axis_functions.md R58). -/
def Obligations.ClampBoundsItsArgument : Prop :=
  ∀ v lo hi : Int, lo ≤ hi →
    (v < lo → clamp v lo hi = lo) ∧ (hi < v → clamp v lo hi = hi) ∧
    (lo ≤ v → v ≤ hi → clamp v lo hi = v) ∧ (v ≤ 1 → clamp v 1 2 = 1) ∧ (2 ≤ v → clamp v 1 2 = 2)

/-- `roundHalfAway` and `roundHalfEven` (40_axis_functions.md R59): the nearest integer, a tie going away from zero or
to the even one; they differ only at ties. -/
def Obligations.RoundingGivesNearestInteger : Prop :=
  ∀ n d : Int, 0 < d →
    NearestTiesAway n d (roundHalfAway n d) ∧
    roundHalfAway n d = (if n < 0 then -1 else 1) * ((2 * |n| + d) / (2 * d)) ∧
    2 * |n - roundHalfEven n d * d| ≤ d ∧
    (2 * |n - roundHalfEven n d * d| = d → roundHalfEven n d % 2 = 0) ∧
    (roundHalfAway n d ≠ roundHalfEven n d → 2 * |n - roundHalfAway n d * d| = d)

/-- `normDelta` (40_axis_functions.md R60): the value in the half-open range of half a revolution that differs from the
delta by whole revolutions; what the rule's loop computes, in at most 12 turns for a difference of two angles. -/
def Obligations.NormDeltaIsTheLoopsShorterArc : Prop :=
  ∀ d : Int,
    -180000000 < normDelta d ∧ normDelta d ≤ 180000000 ∧ (360000000 : Int) ∣ d - normDelta d ∧
    (∃ turns, ∀ more, normDeltaLoop (turns + more) d = normDelta d) ∧
    (|d| ≤ 4294967295 → normDeltaLoop 12 d = normDelta d)

/-- `deltaToCount` (40_axis_functions.md R61): the delta's share of a revolution in counts, rounded to nearest with
ties away from zero. -/
def Obligations.DeltaToCountRoundsExactly : Prop :=
  ∀ d ppr : Int, NearestTiesAway (d * ppr) 360000000 (deltaToCount d ppr)

/-- The range of the count change and where its ends are reached (40_axis_functions.md R62). -/
def Obligations.CountChangeIsAtMostHalfARevolution : Prop :=
  ∀ cpr d : Int, 1 ≤ cpr → -180000000 < d → d ≤ 180000000 →
    |deltaToCount d (4 * cpr)| ≤ 2 * cpr ∧
    (d = 180000000 → deltaToCount d (4 * cpr) = 2 * cpr) ∧
    (deltaToCount d (4 * cpr) = -(2 * cpr) ↔ 2 * (d * (4 * cpr)) ≤ (1 - 4 * cpr) * 360000000)

/-- `wrapCount` (40_axis_functions.md R63): the Euclidean remainder, and for a change of at most half a revolution one
conditional addition or subtraction. -/
def Obligations.WrapCountStaysInRange : Prop :=
  ∀ p k ppr : Int, 0 ≤ p → p < ppr →
    0 ≤ wrapCount p k ppr ∧ wrapCount p k ppr < ppr ∧ ppr ∣ p + k - wrapCount p k ppr ∧
    (2 * |k| ≤ ppr →
      wrapCount p k ppr = if p + k < 0 then p + k + ppr else if ppr ≤ p + k then p + k - ppr else p + k)

/-- The phase table (40_axis_functions.md R64), with the bit formula that the spec infers from it. -/
def Obligations.PatternIsThePhaseTable : Prop :=
  ∀ p : Int,
    (p % 4 = 0 → pattern p = (false, false)) ∧ (p % 4 = 1 → pattern p = (true, false)) ∧
    (p % 4 = 2 → pattern p = (true, true)) ∧ (p % 4 = 3 → pattern p = (false, true)) ∧
    (pattern p).1 = ((BitVec.ofInt 2 p).getLsbD 0 ^^ (BitVec.ofInt 2 p).getLsbD 1) ∧
    (pattern p).2 = (BitVec.ofInt 2 p).getLsbD 1

/-- The anchor test is strict and knows only 0 and 360 degrees (40_axis_functions.md R66). -/
def Obligations.NearAnchorIsStrictAroundZeroAndFull : Prop :=
  ∀ a : Int, nearAnchor a = true ↔ |a| < 1000 ∨ |a - 360000000| < 1000

/-- After a count step, leaving the channels at a zero change gives the same channels as always writing the pattern
(40_axis_functions.md R68). -/
def Obligations.ChannelsFollowCountAfterStep : Prop :=
  ∀ (x : AxisState) (k : Int), x.Inv →
    let y := (x.moveCount k).updateQuadratureStates k
    (y.channelA, y.channelB) = pattern y.positionCount.toNat ∧
      (y.positionCount.toNat : Int) = wrapCount x.positionCount.toNat k x.ppr.toNat

/-- What a transition-counting decoder reads from two successive snapshots of a slot whose count changes by `k`
(40_axis_functions.md R65; 43_output_commands.md R90): exactly `k` when it is at most one count either way, nothing
for a multiple of 4, no direction for a change of 2 more than such a multiple, the opposite step for 3. What a
decoder reads from two snapshots is the model's definition `observedStep` (log entry 25). -/
def Obligations.DecoderReadsOnlySmallCountChanges : Prop :=
  ∀ p k ppr : Int, 0 ≤ p → p < ppr → (4 : Int) ∣ ppr →
    (|k| ≤ 1 → observedStep (pattern p) (pattern (wrapCount p k ppr)) = some k) ∧
    ((4 : Int) ∣ k → observedStep (pattern p) (pattern (wrapCount p k ppr)) = some 0) ∧
    (k % 4 = 2 → observedStep (pattern p) (pattern (wrapCount p k ppr)) = none) ∧
    (k = 3 → observedStep (pattern p) (pattern (wrapCount p k ppr)) = some (-1)) ∧
    (k = -3 → observedStep (pattern p) (pattern (wrapCount p k ppr)) = some 1)

/-- The count changes by at most one exactly when the rotation is below 540 degrees over `ppr`
(43_output_commands.md R90). -/
def Obligations.TrackingLimitIsOneAndAHalfCounts : Prop :=
  ∀ d ppr : Int, |deltaToCount d ppr| ≤ 1 ↔ 2 * |d * ppr| < 3 * 360000000

/-- Whole revolutions between two samples are not seen (70_reset_and_hazards.md R110; 60_exceptions.md R92 row E8). -/
def Obligations.WholeRevolutionsAreNotSeen : Prop :=
  ∀ (x : AxisState) (cur n : Int),
    x.countChange (cur + n * 360000000) = x.countChange cur ∧
    x.countChange (x.previousAngle.toInt + n * 360000000) = 0

/-! ### Sample commands -/

/-- INIT (41_sample_commands.md R69). -/
def Obligations.InitCalibratesActiveSlots : Prop :=
  OpcodeSelects 0x01#8 (fun a b => .init a b) ∧
  ∀ (angle1 angle2 : Int) (s : State),
    exec (.init angle1 angle2) s = .next { s with
      ax0 := { s.ax0 with
        startingAngle := BitVec.ofInt 32 angle1, previousAngle := BitVec.ofInt 32 angle1, positionCount := 0#16
        channelA := false, channelB := false, calibrated := true, index := decide (AnchorAngle angle1) }
      ax1 := if s.numAxes = 2#2 then { s.ax1 with
          startingAngle := BitVec.ofInt 32 angle2, previousAngle := BitVec.ofInt 32 angle2, positionCount := 0#16
          channelA := false, channelB := false, calibrated := true, index := decide (AnchorAngle angle2) }
        else s.ax1
      pending := s.pending ++ [0#32] }

/-- UPDATE on calibrated slots (41_sample_commands.md R71): every active slot takes the eight steps, an inactive slot 1
and everything else stay. -/
def Obligations.UpdateAdvancesActiveSlots : Prop :=
  OpcodeSelects 0x02#8 (fun a b => .update a b) ∧
  ∀ (angle1 angle2 : Int) (s : State), s.Inv → s.ax0.calibrated = true →
    (s.numAxes = 2#2 → s.ax1.calibrated = true) →
    ∃ t, exec (.update angle1 angle2) s = .next t ∧ AdvancesTo s.ax0 angle1 t.ax0 ∧
      (s.numAxes = 2#2 → AdvancesTo s.ax1 angle2 t.ax1) ∧ (s.numAxes ≠ 2#2 → t.ax1 = s.ax1) ∧
      t.numAxes = s.numAxes ∧ Answers s t 0#32

/-- The precondition of UPDATE (41_sample_commands.md R70): without it nothing changes in either slot and the response
is 0 all the same; with one axis the calibration of slot 1 is not read. -/
def Obligations.UpdateNeedsCalibratedActiveSlots : Prop :=
  ∀ (angle1 angle2 : Int) (s : State),
    (s.ax0.calibrated = false ∨ (s.numAxes = 2#2 ∧ s.ax1.calibrated = false) →
      exec (.update angle1 angle2) s = .next { s with pending := s.pending ++ [0#32] }) ∧
    (s.numAxes ≠ 2#2 → ∀ c, ∃ t, exec (.update angle1 angle2) s = .next t ∧
      exec (.update angle1 angle2) { s with ax1 := { s.ax1 with calibrated := c } } =
        .next { t with ax1 := { t.ax1 with calibrated := c } })

/-- The two slots advance independently (41_sample_commands.md R72): where UPDATE takes effect, a slot's new record
depends only on its old record and its own angle. -/
def Obligations.UpdateSlotsAreIndependent : Prop :=
  ∀ (a1 a2 b1 b2 : Int) (s t : State), s.numAxes = t.numAxes → s.updateReady = true → t.updateReady = true →
    ∃ s' t', exec (.update a1 a2) s = .next s' ∧ exec (.update b1 b2) t = .next t' ∧
      (s.ax0 = t.ax0 → a1 = b1 → s'.ax0 = t'.ax0) ∧ (s.ax1 = t.ax1 → a2 = b2 → s'.ax1 = t'.ax1)

/-- After an UPDATE that takes effect, an active slot shows its index exactly when its count is 0
(41_sample_commands.md R74). -/
def Obligations.UpdateIndexMeansCountZero : Prop :=
  ∀ (a1 a2 : Int) (s : State), s.updateReady = true →
    ∃ t, exec (.update a1 a2) s = .next t ∧ (t.ax0.index = true ↔ t.ax0.positionCount = 0#16) ∧
      (s.numAxes = 2#2 → (t.ax1.index = true ↔ t.ax1.positionCount = 0#16))

/-- RESET_INDEX (41_sample_commands.md R73): the anchor override on the selected active slot only. -/
def Obligations.ResetIndexAppliesAnchorOverride : Prop :=
  OpcodeSelects 0x03#8 (fun a b => .resetIndex a b) ∧
  ∀ (axis angle : Int) (s : State),
    exec (.resetIndex axis angle) s = .next { s with
      ax0 := if axis = 0 ∧ AnchorAngle angle ∧ s.ax0.channelA = false ∧ s.ax0.channelB = false then
          { s.ax0 with index := true, positionCount := 0#16 } else s.ax0
      ax1 := if axis = 1 ∧ s.numAxes = 2#2 ∧ AnchorAngle angle ∧ s.ax1.channelA = false ∧ s.ax1.channelB = false then
          { s.ax1 with index := true, positionCount := 0#16 } else s.ax1
      pending := s.pending ++ [0#32] }

/-! ### Configuration commands -/

/-- SET_CPR (42_config_commands.md R75): both slots, active or not. -/
def Obligations.SetCprReconfiguresBothSlots : Prop :=
  OpcodeSelects 0x04#8 (fun a _ => .setCpr a) ∧
  ∀ (c : Int) (s : State), ∃ t, exec (.setCpr c) s = .next t ∧ ConfiguresTo s.ax0 c t.ax0 ∧
    ConfiguresTo s.ax1 c t.ax1 ∧ t.numAxes = s.numAxes ∧ Answers s t 0#32

/-- SET_CPR_AXIS (42_config_commands.md R76): the selected slot only, active or not; an invalid axis changes nothing. -/
def Obligations.SetCprAxisReconfiguresOneSlot : Prop :=
  OpcodeSelects 0x05#8 (fun a b => .setCprAxis a b) ∧
  ∀ (axis c : Int) (s : State), ∃ t, exec (.setCprAxis axis c) s = .next t ∧
    (axis = 0 → ConfiguresTo s.ax0 c t.ax0) ∧ (axis ≠ 0 → t.ax0 = s.ax0) ∧
    (axis = 1 → ConfiguresTo s.ax1 c t.ax1) ∧ (axis ≠ 1 → t.ax1 = s.ax1) ∧
    t.numAxes = s.numAxes ∧ Answers s t 0#32

/-- SET_NUM_AXES (42_config_commands.md R77): the axis count only. -/
def Obligations.SetNumAxesWritesOnlyTheAxisCount : Prop :=
  OpcodeSelects 0x06#8 (fun a _ => .setNumAxes a) ∧
  ∀ (n : Int) (s : State),
    exec (.setNumAxes n) s =
      .next { s with numAxes := if n ≤ 1 then 1#2 else 2#2, pending := s.pending ++ [0#32] }

/-- NOP (42_config_commands.md R78). -/
def Obligations.NopChangesNothing : Prop :=
  OpcodeSelects 0x00#8 (fun _ _ => .nop) ∧
  ∀ s : State, exec .nop s = .next { s with pending := s.pending ++ [0#32] }

/-- SET_CPR has the effect of the two SET_CPR_AXIS commands (30_encoding.md R57). -/
def Obligations.SetCprEqualsTwoAxisCommands : Prop :=
  ∀ (c : Int) (s : State), ∃ t u v, exec (.setCpr c) s = .next t ∧ exec (.setCprAxis 0 c) s = .next u ∧
    exec (.setCprAxis 1 c) u = .next v ∧ t.SameArch v

/-- An inactive slot 1 is touched by the two resolution commands only, and lowering and raising the axis count keeps
both slots (10_state.md R14; 42_config_commands.md R77). -/
def Obligations.InactiveSlotIsKept : Prop :=
  (∀ (i : Instr) (s : State), s.numAxes ≠ 2#2 → (∀ c, i ≠ .setCpr c) → (∀ c, i ≠ .setCprAxis 1 c) →
    ∃ t, exec i s = .next t ∧ t.ax1 = s.ax1) ∧
  ∀ (n m : Int) (s : State), n ≤ 1 → 2 ≤ m →
    ∃ t u, exec (.setNumAxes n) s = .next t ∧ exec (.setNumAxes m) t = .next u ∧
      t.numAxes = 1#2 ∧ u.numAxes = 2#2 ∧ u.ax0 = s.ax0 ∧ u.ax1 = s.ax1

/-! ### Output commands -/

/-- The accessors gated by activity (43_output_commands.md R79, R80, R81, R83, R84): they change no architectural state
and answer with the slot's field, with 0 for an invalid axis and for slot 1 while it is inactive. -/
def Obligations.GatedAccessorsReportActiveSlot : Prop :=
  (OpcodeSelects 0x10#8 (fun a _ => .getChannelA a) ∧ OpcodeSelects 0x11#8 (fun a _ => .getChannelB a) ∧
    OpcodeSelects 0x12#8 (fun a _ => .getIndex a) ∧ OpcodeSelects 0x14#8 (fun a _ => .getPositionCount a) ∧
    OpcodeSelects 0x15#8 (fun a _ => .isCalibrated a)) ∧
  ∀ (axis : Int) (s : State),
    let bit := fun b : Bool => if b then 1#32 else 0#32
    let gate := fun f : AxisState → BitVec 32 =>
      if axis = 0 then f s.ax0 else if axis = 1 ∧ s.numAxes = 2#2 then f s.ax1 else 0#32
    exec (.getChannelA axis) s = .next { s with pending := s.pending ++ [gate fun x => bit x.channelA] } ∧
    exec (.getChannelB axis) s = .next { s with pending := s.pending ++ [gate fun x => bit x.channelB] } ∧
    exec (.getIndex axis) s = .next { s with pending := s.pending ++ [gate fun x => bit x.index] } ∧
    exec (.getPositionCount axis) s =
      .next { s with pending := s.pending ++ [gate fun x => BitVec.ofNat 32 x.positionCount.toNat] } ∧
    exec (.isCalibrated axis) s = .next { s with pending := s.pending ++ [gate fun x => bit x.calibrated] }

/-- GET_CPR (43_output_commands.md R82): the stored resolution, of an inactive slot 1 too; 0 for an invalid axis. -/
def Obligations.GetCprReportsStoredResolution : Prop :=
  OpcodeSelects 0x13#8 (fun a _ => .getCpr a) ∧
  ∀ (axis : Int) (s : State),
    exec (.getCpr axis) s = .next { s with pending := s.pending ++
      [if axis = 0 then BitVec.ofNat 32 s.ax0.cpr.toNat
        else if axis = 1 then BitVec.ofNat 32 s.ax1.cpr.toNat else 0#32] }

/-- GET_FORMATTED_OUTPUT (43_output_commands.md R85): the six bits of the snapshot, the others 0. -/
def Obligations.FormattedOutputIsTheSnapshot : Prop :=
  OpcodeSelects 0x18#8 (fun _ _ => .getFormattedOutput) ∧
  ∀ s : State, ∃ v, exec .getFormattedOutput s = .next { s with pending := s.pending ++ [v] } ∧
    v.getLsbD 0 = s.ax0.channelA ∧ v.getLsbD 1 = s.ax0.channelB ∧
    v.getLsbD 2 = (decide (s.numAxes = 2#2) && s.ax1.channelA) ∧
    v.getLsbD 3 = (decide (s.numAxes = 2#2) && s.ax1.channelB) ∧
    v.getLsbD 4 = (s.ax0.index || (decide (s.numAxes = 2#2) && s.ax1.index)) ∧
    v.getLsbD 5 = decide (s.numAxes = 2#2) ∧ ∀ j, 6 ≤ j → v.getLsbD j = false

/-- The output pins (43_output_commands.md R86): bits 0 to 5 of the word GET_FORMATTED_OUTPUT would respond with; an
edge outside reset that accepts nothing leaves them; a reset edge leaves them at the reset state's snapshot. That an
edge which accepts nothing changes no pin is the model's choice of log entry 4, and that the pins are read after each
edge that of log entry 23. -/
def Obligations.PinsFollowTheSnapshot : Prop :=
  (∀ s : State, ∃ v, exec .getFormattedOutput s = .next { s with pending := s.pending ++ [v] } ∧
    s.pins = ⟨v.getLsbD 0, v.getLsbD 1, v.getLsbD 2, v.getLsbD 3, v.getLsbD 4, v.getLsbD 5⟩) ∧
  (∀ (s : State) (e : ClockEdge) (rest : List ClockEdge), s.edges = e :: rest → e.rstN = true →
    ¬(e.cmdValid = true ∧ e.cmdReady = true) → ∃ t, step s = .next t ∧ t.pins = s.pins) ∧
  ∀ (s : State) (e : ClockEdge) (rest : List ClockEdge), s.edges = e :: rest → e.rstN = false →
    ∃ t, step s = .next t ∧
      t.pins = ⟨false, false, false, false, false, decide (2 ≤ e.cfgNumAxes.toInt)⟩

/-- The CSV row of the snapshot (43_output_commands.md R87): three fields for one axis, five for two. -/
def Obligations.CsvRowRendersTheSnapshot : Prop :=
  (∀ w : BitVec 32,
    let d := fun j => if w.getLsbD j then '1' else '0'
    csv w = String.ofList (if w.getLsbD 5 = false then [d 0, ',', d 1, ',', d 4]
      else [d 0, ',', d 1, ',', d 2, ',', d 3, ',', d 4])) ∧
  ∀ s : State, ∃ v, exec .getFormattedOutput s = .next { s with pending := s.pending ++ [v] } ∧
    (csvChars v).count ',' = if s.numAxes = 2#2 then 4 else 2

/-! ### Whole-machine rules -/

/-- Each register is written only by the commands that 10_state.md R15 to R23 name as its writers. -/
def Obligations.OnlyNamedCommandsWriteARegister : Prop :=
  ∀ (i : Instr) (s : State), ∃ t, exec i s = .next t ∧
    (t.numAxes ≠ s.numAxes → ∃ n, i = .setNumAxes n) ∧
    WrittenOnlyBy i 0 s.ax0 t.ax0 ∧ WrittenOnlyBy i 1 s.ax1 t.ax1

/-- The calibration state machine (10_state.md R21, R26): outside reset a calibrated slot stays calibrated and only an
accepted INIT calibrates one, slot 1 only while it is active; a reset edge clears both. That the flag rises at the very
edge that accepts INIT is the model's choice (log entry 4). -/
def Obligations.OnlyInitCalibratesOnlyResetClears : Prop :=
  ∀ (s : State) (e : ClockEdge) (rest : List ClockEdge), s.edges = e :: rest →
    ∃ t, step s = .next t ∧
      (e.rstN = false → t.ax0.calibrated = false ∧ t.ax1.calibrated = false) ∧
      (e.rstN = true →
        (s.ax0.calibrated = true → t.ax0.calibrated = true) ∧ (s.ax1.calibrated = true → t.ax1.calibrated = true) ∧
        (t.ax0.calibrated = true → s.ax0.calibrated = false →
          e.accepts = true ∧ ∃ a b, decode e.cmdWord = .ok (.init a b)) ∧
        (t.ax1.calibrated = true → s.ax1.calibrated = false →
          e.accepts = true ∧ s.numAxes = 2#2 ∧ ∃ a b, decode e.cmdWord = .ok (.init a b)))

/-- Every command repeated with the same operands changes nothing the second time (20_memory.md R36). -/
def Obligations.RepeatedCommandChangesNothing : Prop :=
  ∀ (i : Instr) (s : State), WellFormed i → s.Inv →
    ∃ t u, exec i s = .next t ∧ exec i t = .next u ∧ u.SameArch t

/-- Nothing observes `startingAngle` (10_state.md R22): two states that differ at most in it stay so under every step,
with the same pins, the same response port and the same responses owed. The spec infers this itself; the model keeps
the field (log entry 15). -/
def Obligations.StartingAngleIsNeverObserved : Prop :=
  ∀ s s' : State, s.forgetStart = s'.forgetStart →
    s.pins = s'.pins ∧
    ∃ t t', step s = .next t ∧ step s' = .next t' ∧ t.forgetStart = t'.forgetStart

/-! ### The assembler -/

/-- A line that assembles gives a well-formed command (30_encoding.md R56; details of the syntax are log entry 19). -/
def Obligations.AssembledCommandsAreWellFormed : Prop :=
  ∀ (line : List Char) (i : Instr), assembleChars line = .ok (some i) → WellFormed i

/-- Lines of the encoding examples of 30_encoding.md §5 assemble to their words (log entry 19). -/
def Obligations.SpecLinesAssemble : Prop :=
  assembleWord "INIT 45, 225" = some (0x0D693A40#32 ++ 0x02AEA540#32 ++ 0x01#8) ∧
  assembleWord "UPDATE -0.0005, 0" = some (0x00000000#32 ++ 0xFFFFFE0C#32 ++ 0x02#8) ∧
  assembleWord "RESET_INDEX 1, 359.9995" = some (0x1575280C#32 ++ 0x00000001#32 ++ 0x03#8) ∧
  assembleWord "SET_NUM_AXES -7" = some (0x00000000#32 ++ 0xFFFFFFF9#32 ++ 0x06#8)
end

