-- ==== Sys2Proof/Laws/State.lean ====
section
/-! SUPPORT. One lemma for each field and each update of a slot record or of the state, so that no later proof
unfolds a record update. -/

namespace Sys2Proof.Machine

variable (x : AxisState) (s : State) (a c k : Int) (v : BitVec 32)

@[simp] theorem calibrate_cpr : (x.calibrate a).cpr = x.cpr := rfl
@[simp] theorem calibrate_ppr : (x.calibrate a).ppr = x.ppr := rfl
@[simp] theorem calibrate_positionCount : (x.calibrate a).positionCount = 0#16 := rfl
@[simp] theorem calibrate_channelA : (x.calibrate a).channelA = false := rfl
@[simp] theorem calibrate_channelB : (x.calibrate a).channelB = false := rfl
@[simp] theorem calibrate_index : (x.calibrate a).index = nearAnchor a := rfl
@[simp] theorem calibrate_startingAngle : (x.calibrate a).startingAngle = BitVec.ofInt 32 a := rfl
@[simp] theorem calibrate_previousAngle : (x.calibrate a).previousAngle = BitVec.ofInt 32 a := rfl
@[simp] theorem calibrate_calibrated : (x.calibrate a).calibrated = true := rfl

@[simp] theorem moveCount_cpr : (x.moveCount k).cpr = x.cpr := rfl
@[simp] theorem moveCount_ppr : (x.moveCount k).ppr = x.ppr := rfl
@[simp] theorem moveCount_positionCount : (x.moveCount k).positionCount =
    BitVec.ofInt 16 (wrapCount x.positionCount.toNat k x.ppr.toNat) := rfl
@[simp] theorem moveCount_channelA : (x.moveCount k).channelA = x.channelA := rfl
@[simp] theorem moveCount_channelB : (x.moveCount k).channelB = x.channelB := rfl
@[simp] theorem moveCount_index : (x.moveCount k).index = x.index := rfl
@[simp] theorem moveCount_startingAngle : (x.moveCount k).startingAngle = x.startingAngle := rfl
@[simp] theorem moveCount_previousAngle : (x.moveCount k).previousAngle = x.previousAngle := rfl
@[simp] theorem moveCount_calibrated : (x.moveCount k).calibrated = x.calibrated := rfl

@[simp] theorem updateQuadratureStates_cpr : (x.updateQuadratureStates k).cpr = x.cpr := by
  unfold AxisState.updateQuadratureStates; split <;> rfl
@[simp] theorem updateQuadratureStates_ppr : (x.updateQuadratureStates k).ppr = x.ppr := by
  unfold AxisState.updateQuadratureStates; split <;> rfl
@[simp] theorem updateQuadratureStates_positionCount :
    (x.updateQuadratureStates k).positionCount = x.positionCount := by
  unfold AxisState.updateQuadratureStates; split <;> rfl
@[simp] theorem updateQuadratureStates_channels :
    ((x.updateQuadratureStates k).channelA, (x.updateQuadratureStates k).channelB) =
      if k = 0 then (x.channelA, x.channelB) else pattern x.positionCount.toNat := by
  unfold AxisState.updateQuadratureStates; split <;> rfl
@[simp] theorem updateQuadratureStates_index : (x.updateQuadratureStates k).index = x.index := by
  unfold AxisState.updateQuadratureStates; split <;> rfl
@[simp] theorem updateQuadratureStates_startingAngle :
    (x.updateQuadratureStates k).startingAngle = x.startingAngle := by
  unfold AxisState.updateQuadratureStates; split <;> rfl
@[simp] theorem updateQuadratureStates_previousAngle :
    (x.updateQuadratureStates k).previousAngle = x.previousAngle := by
  unfold AxisState.updateQuadratureStates; split <;> rfl
@[simp] theorem updateQuadratureStates_calibrated :
    (x.updateQuadratureStates k).calibrated = x.calibrated := by
  unfold AxisState.updateQuadratureStates; split <;> rfl

@[simp] theorem setIndexFromCount_cpr : x.setIndexFromCount.cpr = x.cpr := rfl
@[simp] theorem setIndexFromCount_ppr : x.setIndexFromCount.ppr = x.ppr := rfl
@[simp] theorem setIndexFromCount_positionCount : x.setIndexFromCount.positionCount = x.positionCount := rfl
@[simp] theorem setIndexFromCount_channelA : x.setIndexFromCount.channelA = x.channelA := rfl
@[simp] theorem setIndexFromCount_channelB : x.setIndexFromCount.channelB = x.channelB := rfl
@[simp] theorem setIndexFromCount_index : x.setIndexFromCount.index = (x.positionCount == 0#16) := rfl
@[simp] theorem setIndexFromCount_startingAngle : x.setIndexFromCount.startingAngle = x.startingAngle := rfl
@[simp] theorem setIndexFromCount_previousAngle : x.setIndexFromCount.previousAngle = x.previousAngle := rfl
@[simp] theorem setIndexFromCount_calibrated : x.setIndexFromCount.calibrated = x.calibrated := rfl

@[simp] theorem anchorOverride_cpr : (x.anchorOverride a).cpr = x.cpr := by
  unfold AxisState.anchorOverride; split <;> rfl
@[simp] theorem anchorOverride_ppr : (x.anchorOverride a).ppr = x.ppr := by
  unfold AxisState.anchorOverride; split <;> rfl
@[simp] theorem anchorOverride_positionCount : (x.anchorOverride a).positionCount =
    if x.atAnchor a then 0#16 else x.positionCount := by
  unfold AxisState.anchorOverride; split <;> rfl
@[simp] theorem anchorOverride_channelA : (x.anchorOverride a).channelA = x.channelA := by
  unfold AxisState.anchorOverride; split <;> rfl
@[simp] theorem anchorOverride_channelB : (x.anchorOverride a).channelB = x.channelB := by
  unfold AxisState.anchorOverride; split <;> rfl
@[simp] theorem anchorOverride_index : (x.anchorOverride a).index = (x.atAnchor a || x.index) := by
  unfold AxisState.anchorOverride; split <;> simp_all
@[simp] theorem anchorOverride_startingAngle : (x.anchorOverride a).startingAngle = x.startingAngle := by
  unfold AxisState.anchorOverride; split <;> rfl
@[simp] theorem anchorOverride_previousAngle : (x.anchorOverride a).previousAngle = x.previousAngle := by
  unfold AxisState.anchorOverride; split <;> rfl
@[simp] theorem anchorOverride_calibrated : (x.anchorOverride a).calibrated = x.calibrated := by
  unfold AxisState.anchorOverride; split <;> rfl

@[simp] theorem keepAngle_cpr : (x.keepAngle a).cpr = x.cpr := rfl
@[simp] theorem keepAngle_ppr : (x.keepAngle a).ppr = x.ppr := rfl
@[simp] theorem keepAngle_positionCount : (x.keepAngle a).positionCount = x.positionCount := rfl
@[simp] theorem keepAngle_channelA : (x.keepAngle a).channelA = x.channelA := rfl
@[simp] theorem keepAngle_channelB : (x.keepAngle a).channelB = x.channelB := rfl
@[simp] theorem keepAngle_index : (x.keepAngle a).index = x.index := rfl
@[simp] theorem keepAngle_startingAngle : (x.keepAngle a).startingAngle = x.startingAngle := rfl
@[simp] theorem keepAngle_previousAngle : (x.keepAngle a).previousAngle = BitVec.ofInt 32 a := rfl
@[simp] theorem keepAngle_calibrated : (x.keepAngle a).calibrated = x.calibrated := rfl

@[simp] theorem configure_cpr : (x.configure c).cpr =
    BitVec.ofInt 14 (clamp c Config.cprMin Config.cprMax) := rfl
@[simp] theorem configure_ppr : (x.configure c).ppr =
    BitVec.ofInt 16 (4 * clamp c Config.cprMin Config.cprMax) := rfl
@[simp] theorem configure_positionCount : (x.configure c).positionCount = 0#16 := rfl
@[simp] theorem configure_channelA : (x.configure c).channelA = false := rfl
@[simp] theorem configure_channelB : (x.configure c).channelB = false := rfl
@[simp] theorem configure_index : (x.configure c).index = x.index := rfl
@[simp] theorem configure_startingAngle : (x.configure c).startingAngle = x.startingAngle := rfl
@[simp] theorem configure_previousAngle : (x.configure c).previousAngle = x.previousAngle := rfl
@[simp] theorem configure_calibrated : (x.configure c).calibrated = x.calibrated := rfl

@[simp] theorem setSlot_slot0_ax0 : (s.setSlot .slot0 x).ax0 = x := rfl
@[simp] theorem setSlot_slot0_ax1 : (s.setSlot .slot0 x).ax1 = s.ax1 := rfl
@[simp] theorem setSlot_slot1_ax0 : (s.setSlot .slot1 x).ax0 = s.ax0 := rfl
@[simp] theorem setSlot_slot1_ax1 : (s.setSlot .slot1 x).ax1 = x := rfl
@[simp] theorem setSlot_numAxes (i : Slot) : (s.setSlot i x).numAxes = s.numAxes := by cases i <;> rfl
@[simp] theorem setSlot_edges (i : Slot) : (s.setSlot i x).edges = s.edges := by cases i <;> rfl
@[simp] theorem setSlot_pending (i : Slot) : (s.setSlot i x).pending = s.pending := by cases i <;> rfl
@[simp] theorem setSlot_rsp (i : Slot) : (s.setSlot i x).rsp = s.rsp := by cases i <;> rfl

variable (f g : AxisState → AxisState)

@[simp] theorem mapActive_ax0 : (s.mapActive f g).ax0 = f s.ax0 := rfl
@[simp] theorem mapActive_ax1 : (s.mapActive f g).ax1 = if s.twoAxes then g s.ax1 else s.ax1 := rfl
@[simp] theorem mapActive_numAxes : (s.mapActive f g).numAxes = s.numAxes := rfl
@[simp] theorem mapActive_edges : (s.mapActive f g).edges = s.edges := rfl
@[simp] theorem mapActive_pending : (s.mapActive f g).pending = s.pending := rfl
@[simp] theorem mapActive_rsp : (s.mapActive f g).rsp = s.rsp := rfl

@[simp] theorem respond_ax0 : (s.respond v).ax0 = s.ax0 := rfl
@[simp] theorem respond_ax1 : (s.respond v).ax1 = s.ax1 := rfl
@[simp] theorem respond_numAxes : (s.respond v).numAxes = s.numAxes := rfl
@[simp] theorem respond_edges : (s.respond v).edges = s.edges := rfl
@[simp] theorem respond_pending : (s.respond v).pending = s.pending ++ [v] := rfl
@[simp] theorem respond_rsp : (s.respond v).rsp = s.rsp := rfl

variable (cc cn : BitVec 32)

@[simp] theorem loadReset_ax0 : (s.loadReset cc cn).ax0 = resetSlot cc := rfl
@[simp] theorem loadReset_ax1 : (s.loadReset cc cn).ax1 = resetSlot cc := rfl
@[simp] theorem loadReset_numAxes : (s.loadReset cc cn).numAxes = clampAxes cn.toInt := rfl
@[simp] theorem loadReset_edges : (s.loadReset cc cn).edges = s.edges := rfl
@[simp] theorem loadReset_pending : (s.loadReset cc cn).pending = [] := rfl
@[simp] theorem loadReset_rsp : (s.loadReset cc cn).rsp = none := rfl

@[simp] theorem present_ax0 (b : Bool) : (s.present b).ax0 = s.ax0 := by
  unfold State.present; split <;> rfl
@[simp] theorem present_ax1 (b : Bool) : (s.present b).ax1 = s.ax1 := by
  unfold State.present; split <;> rfl
@[simp] theorem present_numAxes (b : Bool) : (s.present b).numAxes = s.numAxes := by
  unfold State.present; split <;> rfl
@[simp] theorem present_edges (b : Bool) : (s.present b).edges = s.edges := by
  unfold State.present; split <;> rfl

@[simp] theorem offer_ax0 (w : BitVec 72) : (s.offer w).ax0 = s.ax0 := rfl
@[simp] theorem offer_ax1 (w : BitVec 72) : (s.offer w).ax1 = s.ax1 := rfl
@[simp] theorem offer_numAxes (w : BitVec 72) : (s.offer w).numAxes = s.numAxes := rfl
@[simp] theorem offer_edges (w : BitVec 72) : (s.offer w).edges = acceptEdge w :: s.edges := rfl
@[simp] theorem offer_pending (w : BitVec 72) : (s.offer w).pending = s.pending := rfl
@[simp] theorem offer_rsp (w : BitVec 72) : (s.offer w).rsp = s.rsp := rfl

end Sys2Proof.Machine
end

