-- ==== Sys2Proof/Laws/Ops.lean ====
section
/-! SUPPORT. For each shared operation one lemma that says once everything it can do. -/

namespace Sys2Proof.Machine

/-- The three ways an axis selector reads. -/
theorem selectSlot_cases (axis : Int) :
    (axis = 0 ∧ selectSlot axis = some .slot0) ∨ (axis = 1 ∧ selectSlot axis = some .slot1) ∨
      (axis ≠ 0 ∧ axis ≠ 1 ∧ selectSlot axis = none) := by
  unfold selectSlot
  split
  · exact .inl ⟨‹_›, rfl⟩
  · split
    · exact .inr (.inl ⟨‹_›, rfl⟩)
    · exact .inr (.inr ⟨‹_›, ‹_›, rfl⟩)

/-- The three ways an activity-gated selector reads. -/
theorem activeSlot_cases (s : State) (axis : Int) :
    (axis = 0 ∧ s.activeSlot axis = some .slot0) ∨
      (axis = 1 ∧ s.twoAxes = true ∧ s.activeSlot axis = some .slot1) ∨
      (axis ≠ 0 ∧ ¬(axis = 1 ∧ s.twoAxes = true) ∧ s.activeSlot axis = none) := by
  rcases selectSlot_cases axis with ⟨h, hs⟩ | ⟨h, hs⟩ | ⟨h0, h1, hs⟩
  · exact .inl ⟨h, by simp [State.activeSlot, hs, State.active]⟩
  · cases ht : s.twoAxes with
    | true => exact .inr (.inl ⟨h, rfl, by simp [State.activeSlot, hs, State.active, ht]⟩)
    | false =>
      exact .inr (.inr ⟨by omega, by simp, by simp [State.activeSlot, hs, State.active, ht]⟩)
  · exact .inr (.inr ⟨h0, fun h => h1 h.1, by simp [State.activeSlot, hs]⟩)

/-- A selector reports exactly when it names an active slot. -/
theorem reportable_eq (s : State) (axis : Int) : s.reportable axis = (s.activeSlot axis).isSome := by
  rcases activeSlot_cases s axis with ⟨h, ha⟩ | ⟨h, ht, ha⟩ | ⟨h0, h1, ha⟩
  · subst h; simp [State.reportable, ha]
  · subst h; simp [State.reportable, ht, ha]
  · rw [ha]
    simp [State.reportable, h0]
    simpa using h1

/-- A gated report, by the cases of its selector. -/
theorem report_eq (s : State) (axis : Int) (f : AxisState → BitVec 32) :
    s.report axis f = if axis = 0 then f s.ax0 else if axis = 1 ∧ s.twoAxes = true then f s.ax1 else 0#32 := by
  rcases activeSlot_cases s axis with ⟨h, ha⟩ | ⟨h, ht, ha⟩ | ⟨h0, h1, ha⟩
  · subst h; simp [State.report, ha, State.slot]
  · subst h; simp [State.report, ha, State.slot, ht]
  · simp only [State.report, ha, if_neg h0, if_neg h1]

/-- An ungated report, by the cases of its selector. -/
theorem reportStored_eq (s : State) (axis : Int) (f : AxisState → BitVec 32) :
    s.reportStored axis f = if axis = 0 then f s.ax0 else if axis = 1 then f s.ax1 else 0#32 := by
  rcases selectSlot_cases axis with ⟨h, ha⟩ | ⟨h, ha⟩ | ⟨h0, h1, ha⟩
  · subst h; simp [State.reportStored, ha, State.slot]
  · subst h; simp [State.reportStored, ha, State.slot]
  · simp [State.reportStored, ha, h0, h1]

theorem twoAxes_iff (s : State) : s.twoAxes = true ↔ s.numAxes = 2#2 := by
  simp [State.twoAxes]

@[simp] theorem bitWord_true : bitWord true = 1#32 := rfl
@[simp] theorem bitWord_false : bitWord false = 0#32 := rfl

/-- Presenting a response: the oldest one owed leaves the queue, or nothing is presented. -/
theorem present_cases (s : State) (b : Bool) :
    (b = true ∧ ∃ v rest, s.pending = v :: rest ∧ s.present b = { s with rsp := some v, pending := rest }) ∨
      ((b = false ∨ s.pending = []) ∧ s.present b = { s with rsp := none }) := by
  unfold State.present
  cases b with
  | false => exact .inr ⟨.inl rfl, rfl⟩
  | true =>
    cases hp : s.pending with
    | nil => exact .inr ⟨.inr rfl, rfl⟩
    | cons v rest => exact .inl ⟨rfl, v, rest, rfl, rfl⟩

/-- What the response port shows and what is still owed are together what was owed. -/
theorem present_pending (s : State) (b : Bool) :
    (s.present b).rsp.toList ++ (s.present b).pending = s.pending := by
  rcases present_cases s b with ⟨-, v, rest, hp, h⟩ | ⟨-, h⟩
  · simp [h, hp]
  · simp [h]

section
variable (x : AxisState) (cur : Int)

@[simp] theorem advance_cpr : (x.advance cur).cpr = x.cpr := by simp [AxisState.advance]
@[simp] theorem advance_ppr : (x.advance cur).ppr = x.ppr := by simp [AxisState.advance]
@[simp] theorem advance_startingAngle : (x.advance cur).startingAngle = x.startingAngle := by
  simp [AxisState.advance]
@[simp] theorem advance_previousAngle : (x.advance cur).previousAngle = BitVec.ofInt 32 cur := by
  simp [AxisState.advance]
@[simp] theorem advance_calibrated : (x.advance cur).calibrated = x.calibrated := by simp [AxisState.advance]

end

/-- One taken edge: nothing lined up, reset, an accepted command, or none accepted. -/
theorem takeEdge_cases (s : State) :
    (s.edges = [] ∧ takeEdge s = .next s) ∨
    ∃ e rest, s.edges = e :: rest ∧
      ((e.rstN = false ∧
          takeEdge s = .next (State.loadReset { s with edges := rest } e.cfgCpr e.cfgNumAxes)) ∨
        (e.rstN = true ∧ e.accepts = true ∧
          takeEdge s = execWord e.cmdWord (State.present { s with edges := rest } e.presents)) ∨
        (e.rstN = true ∧ e.accepts = false ∧
          takeEdge s = .next (State.present { s with edges := rest } e.presents))) := by
  cases he : s.edges with
  | nil => exact .inl ⟨rfl, by simp [takeEdge, he]⟩
  | cons e rest =>
    refine .inr ⟨e, rest, rfl, ?_⟩
    simp only [takeEdge, he, clockEdge]
    cases hr : e.rstN with
    | false => exact .inl ⟨rfl, by simp⟩
    | true =>
      cases ha : e.accepts with
      | true => exact .inr (.inl ⟨rfl, rfl, by simp⟩)
      | false => exact .inr (.inr ⟨rfl, rfl, by simp⟩)

end Sys2Proof.Machine
end

