-- ==== Sys2Proof/Laws/PerInstr.lean ====
section
/-! SUPPORT. The statements made for every command, one lemma each. -/

namespace Sys2Proof.Laws.FieldsRebuild

/-- A command is rebuilt from its name and its two operand fields. -/
def Statement (i : Instr) : Prop := Instr.ofFields i.mnemonic i.arg0 i.arg1 = i

theorem nop : Statement .nop := rfl
theorem init (angle1 angle2 : Int) : Statement (.init angle1 angle2) := rfl
theorem update (angle1 angle2 : Int) : Statement (.update angle1 angle2) := rfl
theorem resetIndex (axis angle : Int) : Statement (.resetIndex axis angle) := rfl
theorem setCpr (cpr : Int) : Statement (.setCpr cpr) := rfl
theorem setCprAxis (axis cpr : Int) : Statement (.setCprAxis axis cpr) := rfl
theorem setNumAxes (n : Int) : Statement (.setNumAxes n) := rfl
theorem getChannelA (axis : Int) : Statement (.getChannelA axis) := rfl
theorem getChannelB (axis : Int) : Statement (.getChannelB axis) := rfl
theorem getIndex (axis : Int) : Statement (.getIndex axis) := rfl
theorem getCpr (axis : Int) : Statement (.getCpr axis) := rfl
theorem getPositionCount (axis : Int) : Statement (.getPositionCount axis) := rfl
theorem isCalibrated (axis : Int) : Statement (.isCalibrated axis) := rfl
theorem getFormattedOutput : Statement .getFormattedOutput := rfl

end Sys2Proof.Laws.FieldsRebuild

namespace Sys2Proof.Laws.OpcodeFirst

/-- The opcode is the least significant byte of the command word, and its table row gives the name back. -/
def Statement (i : Instr) : Prop :=
  opField (encode i) = i.mnemonic.opcode ∧ Mnemonic.ofOpcode i.mnemonic.opcode = some i.mnemonic

/-- The opcode field of a packed word. -/
theorem opField_packWord (op : BitVec 8) (arg0 arg1 : Word) : opField (packWord op arg0 arg1) = op := by
  ext j hj
  have h : (arg1 ++ arg0 ++ op).getLsbD j = op.getLsbD j := by
    rw [BitVec.getLsbD_append, if_pos hj]
  simpa [opField, packWord, BitVec.getLsbD_eq_getElem hj] using h

/-- The row of every opcode of the table. -/
theorem ofOpcode_opcode (m : Mnemonic) : Mnemonic.ofOpcode m.opcode = some m := by cases m <;> rfl

/-- The statement holds of any command, whatever its operands. -/
theorem of_any (i : Instr) : Statement i := ⟨opField_packWord _ _ _, ofOpcode_opcode _⟩

theorem nop : Statement .nop := of_any _
theorem init (angle1 angle2 : Int) : Statement (.init angle1 angle2) := of_any _
theorem update (angle1 angle2 : Int) : Statement (.update angle1 angle2) := of_any _
theorem resetIndex (axis angle : Int) : Statement (.resetIndex axis angle) := of_any _
theorem setCpr (cpr : Int) : Statement (.setCpr cpr) := of_any _
theorem setCprAxis (axis cpr : Int) : Statement (.setCprAxis axis cpr) := of_any _
theorem setNumAxes (n : Int) : Statement (.setNumAxes n) := of_any _
theorem getChannelA (axis : Int) : Statement (.getChannelA axis) := of_any _
theorem getChannelB (axis : Int) : Statement (.getChannelB axis) := of_any _
theorem getIndex (axis : Int) : Statement (.getIndex axis) := of_any _
theorem getCpr (axis : Int) : Statement (.getCpr axis) := of_any _
theorem getPositionCount (axis : Int) : Statement (.getPositionCount axis) := of_any _
theorem isCalibrated (axis : Int) : Statement (.isCalibrated axis) := of_any _
theorem getFormattedOutput : Statement .getFormattedOutput := of_any _

end Sys2Proof.Laws.OpcodeFirst
end

