-- ==== Sys2Proof/Tests/Slice0.lean ====
section
/-! SUPPORT. Tests. Expected values come from 30_encoding.md §5 and 95_test_vectors.md (each comment names the row),
never from a run of the model. The theorems named `witness_…` show that the hypotheses of a statement can be met. -/

namespace Sys2Proof.Tests

open Sys2Proof Sys2Proof.Machine

/-- A slot with the given resolution, count, channels, index, calibration and last sample. -/
def slotOf (cpr count : Nat) (a b idx cal : Bool) (prev : Int) : AxisState where
  cpr := BitVec.ofNat 14 cpr
  ppr := BitVec.ofNat 16 (4 * cpr)
  positionCount := BitVec.ofNat 16 count
  channelA := a
  channelB := b
  index := idx
  startingAngle := 0#32
  previousAngle := BitVec.ofInt 32 prev
  calibrated := cal

/-- A block with the given axis count and slots. -/
def blockOf (n : BitVec 2) (x y : AxisState) : State := { State.reset with numAxes := n, ax0 := x, ax1 := y }

/-- An edge outside reset. -/
def runEdge (valid canAccept presents : Bool) (w : CmdWord) : ClockEdge :=
  ⟨true, 0#32, 0#32, valid, w, canAccept, presents⟩

/-- An edge in reset with the given configuration levels. -/
def resetEdge (cfgCpr cfgNumAxes : Int) : ClockEdge :=
  ⟨false, BitVec.ofInt 32 cfgCpr, BitVec.ofInt 32 cfgNumAxes, true, 0#72, true, true⟩

/-- A field of the state after a command. -/
def after {α : Type} (i : Instr) (s : State) (f : State → α) : Option α := (nextState (exec i s)).map f

/-- A field of the state after a step. -/
def afterStep {α : Type} (s : State) (f : State → α) : Option α := (nextState (step s)).map f

/-- Count, channels and index of a slot. -/
def outputs (x : AxisState) : Nat × Bool × Bool × Bool :=
  (x.positionCount.toNat, x.channelA, x.channelB, x.index)

/-- The state after INIT 45, 225 and UPDATE 46, 226 (95_test_vectors.md V-SCN-2). -/
def scenario : State :=
  blockOf 2#2 (slotOf 4096 46 true true false true 46000000) (slotOf 4096 46 true true false true 226000000)

/-- The state of the rows V-ACC1 (95_test_vectors.md §2.10): one axis, slot 1 keeps its record. -/
def lowered : State :=
  blockOf 1#2 (slotOf 4096 46 true true false true 1000000) (slotOf 4096 46 true true false true 1000000)

/-- The state after INIT 0, 0 with two axes (95_test_vectors.md V-INIT-1). -/
def atZero : State := blockOf 2#2 (slotOf 4096 0 false false true true 0) (slotOf 4096 0 false false true true 0)

/-! ### Well-formedness: one ill-formed term for each check -/

theorem test_init_angle1_too_big : Instr.wellFormed (.init 2147483648 0) = false := by decide
theorem test_init_angle2_too_small : Instr.wellFormed (.init 0 (-2147483649)) = false := by decide
theorem test_update_angle1_too_small : Instr.wellFormed (.update (-2147483649) 0) = false := by decide
theorem test_update_angle2_too_big : Instr.wellFormed (.update 0 2147483648) = false := by decide
theorem test_resetIndex_axis_too_big : Instr.wellFormed (.resetIndex 2147483648 0) = false := by decide
theorem test_resetIndex_angle_too_big : Instr.wellFormed (.resetIndex 0 2147483648) = false := by decide
theorem test_setCpr_too_small : Instr.wellFormed (.setCpr (-2147483649)) = false := by decide
theorem test_setCprAxis_axis_too_big : Instr.wellFormed (.setCprAxis 2147483648 0) = false := by decide
theorem test_setCprAxis_cpr_too_big : Instr.wellFormed (.setCprAxis 0 2147483648) = false := by decide
theorem test_setNumAxes_too_big : Instr.wellFormed (.setNumAxes 2147483648) = false := by decide
theorem test_getChannelA_axis_too_big : Instr.wellFormed (.getChannelA 2147483648) = false := by decide
theorem test_getChannelB_axis_too_big : Instr.wellFormed (.getChannelB 2147483648) = false := by decide
theorem test_getIndex_axis_too_big : Instr.wellFormed (.getIndex 2147483648) = false := by decide
theorem test_getCpr_axis_too_big : Instr.wellFormed (.getCpr 2147483648) = false := by decide
theorem test_getPositionCount_axis_too_big : Instr.wellFormed (.getPositionCount 2147483648) = false := by decide
theorem test_isCalibrated_axis_too_small : Instr.wellFormed (.isCalibrated (-2147483649)) = false := by decide
/-- Both ends of the field are in (30_encoding.md R48). -/
theorem test_field_ends_fit : Instr.wellFormed (.init 2147483647 (-2147483648)) = true := by decide

/-! ### Decoding: words written out from 30_encoding.md §5 and 95_test_vectors.md §2.13 -/

theorem test_decode_nop : decode (0x00000000#32 ++ 0x00000000#32 ++ 0b00000000#8) = .ok .nop := by rfl
/-- INIT 0.5, -0.5. -/
theorem test_decode_init :
    decode (0xFFF85EE0#32 ++ 0x0007A120#32 ++ 0b00000001#8) = .ok (.init 500000 (-500000)) := by rfl
/-- UPDATE 2147.483647, -2147.483648. -/
theorem test_decode_update :
    decode (0x80000000#32 ++ 0x7FFFFFFF#32 ++ 0b00000010#8) = .ok (.update 2147483647 (-2147483648)) := by rfl
/-- RESET_INDEX 1, -0.000999. -/
theorem test_decode_resetIndex :
    decode (0xFFFFFC19#32 ++ 0x00000001#32 ++ 0b00000011#8) = .ok (.resetIndex 1 (-999)) := by rfl
theorem test_decode_setCpr :
    decode (0x00000000#32 ++ 0xFFFFFFFF#32 ++ 0b00000100#8) = .ok (.setCpr (-1)) := by rfl
theorem test_decode_setCprAxis :
    decode (0x00002328#32 ++ 0x00000001#32 ++ 0b00000101#8) = .ok (.setCprAxis 1 9000) := by rfl
theorem test_decode_setNumAxes :
    decode (0x00000000#32 ++ 0x00000002#32 ++ 0b00000110#8) = .ok (.setNumAxes 2) := by rfl
theorem test_decode_getChannelA :
    decode (0x00000000#32 ++ 0x00000000#32 ++ 0b00010000#8) = .ok (.getChannelA 0) := by rfl
theorem test_decode_getChannelB :
    decode (0x00000000#32 ++ 0x00000001#32 ++ 0b00010001#8) = .ok (.getChannelB 1) := by rfl
theorem test_decode_getIndex :
    decode (0x00000000#32 ++ 0x00000001#32 ++ 0b00010010#8) = .ok (.getIndex 1) := by rfl
/-- V-ACC-ign: arg1 is ignored. -/
theorem test_decode_getCpr :
    decode (0xFFFFFFFF#32 ++ 0x00000000#32 ++ 0b00010011#8) = .ok (.getCpr 0) := by rfl
theorem test_decode_getPositionCount :
    decode (0x00000000#32 ++ 0x00000001#32 ++ 0b00010100#8) = .ok (.getPositionCount 1) := by rfl
/-- V-ACC-IS_CALIBRATED-0x80000000. -/
theorem test_decode_isCalibrated :
    decode (0x00000000#32 ++ 0x80000000#32 ++ 0b00010101#8) = .ok (.isCalibrated (-2147483648)) := by rfl
theorem test_decode_getFormattedOutput :
    decode (0x00000000#32 ++ 0x00000000#32 ++ 0b00011000#8) = .ok .getFormattedOutput := by rfl
/-- V-NOP-op16. -/
theorem test_decode_reserved :
    decode (0x9ABCDEF0#32 ++ 0x12345678#32 ++ 0b00010110#8) = .error (.reservedOpcode 0x16#8) := by rfl
theorem test_decodeBytes_short : decodeBytes [1#8, 2#8] = .error (.notNineBytes 2) := by rfl
/-- UPDATE -0.0005, 0 as nine bytes, least significant first (20_memory.md R34). -/
theorem test_decodeBytes :
    decodeBytes [0x02#8, 0x0C#8, 0xFE#8, 0xFF#8, 0xFF#8, 0#8, 0#8, 0#8, 0#8] = .ok (.update (-500) 0) := by rfl
/-- UPDATE u1, u-1. -/
theorem test_encode_update : encode (.update 1 (-1)) = 0xFFFFFFFF0000000102#72 := by decide
/-- RESET_INDEX 1, 359.9995. -/
theorem test_encode_resetIndex : encode (.resetIndex 1 359999500) = 0x1575280C0000000103#72 := by decide
/-- A table word of 8 bits has both operands 0. -/
theorem test_decodeTableWord : decodeTableWord 8 0x01 = some (.init 0 0) := by decide

/-! ### Pure functions (95_test_vectors.md §2.1) -/

theorem test_clamp :
    clamp (-5) 1 9000 = 1 ∧ clamp 99999 1 9000 = 9000 ∧ clamp 4096 1 9000 = 4096 ∧ clamp (-7) 1 2 = 1 := by decide
theorem test_roundHalfAway :
    roundHalfAway 1 2 = 1 ∧ roundHalfAway (-1) 2 = -1 ∧ roundHalfAway (-5) 2 = -3 ∧ roundHalfAway (-4) 10 = 0 := by
  decide
theorem test_roundHalfEven :
    roundHalfEven (-1) 2 = 0 ∧ roundHalfEven 3 2 = 2 ∧ roundHalfEven (-5) 2 = -2 ∧ roundHalfEven (-6) 10 = -1 := by
  decide
theorem test_normDelta :
    normDelta 180000000 = 180000000 ∧ normDelta (-180000000) = 180000000 ∧ normDelta 180000001 = -179999999 ∧
      normDelta 4294967295 = -25032705 := by decide
theorem test_deltaToCount :
    deltaToCount 1000000 16384 = 46 ∧ deltaToCount (-45000000) 4 = -1 ∧ deltaToCount 32958 16384 = 1 ∧
      deltaToCount 32959 16384 = 2 := by decide
theorem test_deltaToCount_even :
    deltaToCountTies .even (-45000000) 4 = 0 ∧ deltaToCountTies .even 135000000 4 = 2 := by decide
theorem test_wrapCount :
    wrapCount 0 (-1) 4 = 3 ∧ wrapCount 3 1 4 = 0 ∧ wrapCount 0 (-1139) 16384 = 15245 := by decide
theorem test_pattern :
    pattern 4 = (false, false) ∧ pattern 5 = (true, false) ∧ pattern 6 = (true, true) ∧
      pattern 7 = (false, true) := by decide
theorem test_nearAnchor :
    nearAnchor (-999) = true ∧ nearAnchor 1000 = false ∧ nearAnchor 359999001 = true ∧
      nearAnchor 360001000 = false ∧ nearAnchor (-360000000) = false := by decide

/-! ### One step of each command -/

/-- V-INIT-3. -/
theorem test_init : after (.init 999 (-999)) State.reset (fun t => (t.ax0.index, t.ax1.index, t.ax1.calibrated,
    t.ax0.previousAngle, t.ax1.startingAngle)) = some (true, true, true, 0x3E7#32, 0xFFFFFC19#32) := by decide
/-- V-INIT-7: with one axis slot 1 is not written. -/
theorem test_init_one_axis : after (.init 0 0) { State.reset with numAxes := 1#2 }
    (fun t => (t.ax0.calibrated, t.ax1)) = some (true, AxisState.reset) := by decide
/-- V-UPD-7: one degree back wraps; slot 1 stays at the anchor. -/
theorem test_update : after (.update 359000000 0) atZero (fun t => (outputs t.ax0, outputs t.ax1)) =
    some ((16338, true, true, false), (0, false, false, true)) := by decide
/-- V-UPD-12: the anchor override corrects the count. -/
theorem test_update_override :
    after (.update 0 0) (blockOf 2#2 (slotOf 4096 0 false false false true 966797) (slotOf 4096 0 false false true true 0))
      (fun t => (outputs t.ax0, t.ax0.previousAngle)) = some ((0, false, false, true), 0#32) := by decide
/-- V-RI-9. -/
theorem test_resetIndex : after (.resetIndex 1 360000000)
    (blockOf 2#2 (slotOf 4096 5 true false false true 0) (slotOf 4096 8 false false false true 90175781))
    (fun t => (outputs t.ax0, outputs t.ax1)) = some ((5, true, false, false), (0, false, false, true)) := by decide
/-- V-RI-4: the channels are not both 0. -/
theorem test_resetIndex_channels : after (.resetIndex 0 0)
    (blockOf 2#2 (slotOf 4096 1 true false false true 20000) AxisState.reset) (fun t => outputs t.ax0) =
      some (1, true, false, false) := by decide
/-- V-CPR-1: clamped, count and channels cleared, the index of slot 1 kept. -/
theorem test_setCpr : after (.setCpr 99999) { atZero with ax0 := slotOf 4096 4097 true false false true 90021973 }
    (fun t => (t.ax0.cpr, t.ax0.ppr, t.ax0.positionCount, t.ax0.channelA, t.ax1.index)) =
      some (9000#14, 36000#16, 0#16, false, true) := by decide
/-- V-CPR-6: an inactive slot 1 too. -/
theorem test_setCpr_inactive : after (.setCpr 12) { State.reset with numAxes := 1#2 }
    (fun t => (t.ax0.cpr, t.ax1.cpr)) = some (12#14, 12#14) := by decide
/-- V-CPA-6. -/
theorem test_setCprAxis : after (.setCprAxis 1 2147483647) scenario
    (fun t => (t.ax0.positionCount, t.ax1.cpr, outputs t.ax1)) =
      some (46#16, 9000#14, (0, false, false, false)) := by decide
/-- V-CPA-3: a negative axis changes nothing. -/
theorem test_setCprAxis_invalid : after (.setCprAxis (-1) 12) scenario (fun t => (t.ax0, t.ax1)) =
    some (scenario.ax0, scenario.ax1) := by decide
/-- V-NA-2 and V-NA-3. -/
theorem test_setNumAxes_low : after (.setNumAxes (-7)) State.reset State.numAxes = some 1#2 ∧
    after (.setNumAxes 0) State.reset State.numAxes = some 1#2 := by decide
/-- V-NA-1. -/
theorem test_setNumAxes_high : after (.setNumAxes 5) lowered (fun t => (t.numAxes, t.ax1)) =
    some (2#2, lowered.ax1) := by decide
/-- V-NOP-1. -/
theorem test_nop : after .nop scenario id = some { scenario with pending := [0#32] } := by decide
/-- V-ACC-GET_CHANNEL_A-1. -/
theorem test_getChannelA : after (.getChannelA 1) scenario State.pending = some [1#32] := by decide
/-- V-ACC1-GET_CHANNEL_A. -/
theorem test_getChannelA_inactive : after (.getChannelA 1) lowered State.pending = some [0#32] := by decide
/-- V-SNP-8's slot 1, with channels (1, 0). -/
theorem test_getChannelB : after (.getChannelB 1) { scenario with ax1 := slotOf 4096 1 true false false true 20000 }
    State.pending = some [0#32] := by decide
/-- V-ACC-GET_CHANNEL_B--1. -/
theorem test_getChannelB_invalid : after (.getChannelB (-1)) scenario State.pending = some [0#32] := by decide
/-- Program P1 step 2's reading, GET_INDEX 0 after INIT 0, 0 (95_test_vectors.md S3). -/
theorem test_getIndex : after (.getIndex 0) atZero State.pending = some [1#32] := by decide
/-- V-ACC1-idx. -/
theorem test_getIndex_inactive : after (.getIndex 1) { atZero with numAxes := 1#2 } State.pending = some [0#32] := by
  decide
/-- V-ACC1-GET_CPR: not gated by activity. -/
theorem test_getCpr : after (.getCpr 1) lowered State.pending = some [4096#32] := by decide
/-- V-ACC-GET_CPR-2. -/
theorem test_getCpr_invalid : after (.getCpr 2) scenario State.pending = some [0#32] := by decide
/-- V-ACC-cnt. -/
theorem test_getPositionCount :
    after (.getPositionCount 0) { atZero with ax0 := slotOf 4096 16338 true true false true 359000000 } State.pending =
      some [16338#32] := by decide
/-- V-ACC1-GET_POSITION_COUNT. -/
theorem test_getPositionCount_inactive : after (.getPositionCount 1) lowered State.pending = some [0#32] := by decide
/-- V-ACC-IS_CALIBRATED-1. -/
theorem test_isCalibrated : after (.isCalibrated 1) scenario State.pending = some [1#32] := by decide
/-- V-ACC1-IS_CALIBRATED. -/
theorem test_isCalibrated_inactive : after (.isCalibrated 1) lowered State.pending = some [0#32] := by decide
/-- V-SNP-8. -/
theorem test_getFormattedOutput : after .getFormattedOutput
    (blockOf 2#2 (slotOf 4096 4096 false false false true 90000000) (slotOf 4096 1 true false false true 20000))
    State.pending = some [0x24#32] := by decide
/-- V-SNP-5: the index of an inactive slot 1 is not combined. -/
theorem test_getFormattedOutput_inactive : after .getFormattedOutput
    (blockOf 1#2 (slotOf 4096 0 false false false true 90000000) (slotOf 4096 0 false false true true 0))
    State.pending = some [0x00#32] := by decide
/-- V-NOP-op07. -/
theorem test_reserved : nextState (execWord (0x9ABCDEF0#32 ++ 0x12345678#32 ++ 0x07#8) scenario) =
    some { scenario with pending := [0#32] } := by decide
/-- The CSV table of 95_test_vectors.md §2.11. -/
theorem test_csv : csv 0x2F#32 = "1,1,1,1,0" ∧ csv 0x24#32 = "0,0,1,0,0" ∧ csv 0x13#32 = "1,1,1" := by decide

/-! ### The command port -/

/-- V-RST-3. -/
theorem test_reset_high : afterStep { scenario with edges := [resetEdge 99999 5], pending := [7#32] }
    (fun t => (t.numAxes, t.ax0.cpr, t.ax1.ppr, t.pending)) = some (2#2, 9000#14, 36000#16, []) := by decide
/-- V-RST-4. -/
theorem test_reset_low : afterStep { scenario with edges := [resetEdge (-1) 0] }
    (fun t => (t.numAxes, t.ax0.cpr, t.ax1.positionCount)) = some (1#2, 1#14, 0#16) := by decide
/-- The pins at reset, 0x20 (70_reset_and_hazards.md R107). -/
theorem test_reset_pins : State.reset.pins = ⟨false, false, false, false, false, true⟩ := by decide
/-- The word of a table row is run by the next step. -/
theorem test_withFetchWord : afterStep (State.reset.withFetchWord 8 0x18) State.pending = some [0x20#32] := by decide
/-- An accepted command's response is presented at a later edge, oldest first (30_encoding.md R50). -/
theorem test_responses_in_order :
    presented 3 { scenario with edges := [runEdge true true true 0x14#72, runEdge true true true 0x15#72,
      runEdge false true true 0#72], pending := [9#32] } = [9#32, 46#32, 1#32] := by decide
/-- No command is taken while the block is not ready (30_encoding.md R45). -/
theorem test_not_ready : afterStep { scenario with edges := [runEdge true false false 0x04#72] }
    (fun t => (t.ax0, t.pending)) = some (scenario.ax0, []) := by decide
theorem test_no_edge_holds : afterStep scenario id = some scenario := by decide

/-! ### The assembler (30_encoding.md R55, R56) -/

theorem test_assemble_units : assembleWord "INIT u999, u-999 ; ends" = some 0xFFFFFC19000003E701#72 := by decide
theorem test_assemble_degrees : assembleWord "UPDATE 2147.483647, -2147.483648" = some 0x800000007FFFFFFF02#72 := by
  decide
theorem test_assemble_hex : assembleWord "SET_CPR_AXIS 1, 0x7FFFFFFF" = some 0x7FFFFFFF0000000105#72 := by decide
theorem test_assemble_seven_digits : assemble "INIT 0.0000001, 0" = .error .badLiteral := by rfl
/-- The model's choice (log entry 19): raw units are decimal. -/
theorem test_assemble_raw_units_decimal : assemble "INIT u0x10, 0" = .error .badLiteral := by rfl
theorem test_assemble_range : assemble "INIT 2147.483648, 0" = .error .outOfRange := by rfl
theorem test_assemble_missing : assemble "RESET_INDEX 0" = .error .wrongOperandCount := by rfl
theorem test_assemble_extra : assemble "NOP 0" = .error .wrongOperandCount := by rfl
theorem test_assemble_unknown : assemble "GET_PPR 0" = .error .unknownMnemonic := by rfl
theorem test_assemble_comment : assemble "; nothing" = .ok none := by rfl

/-! ### Witnesses: the hypotheses of the statements can be met -/

/-- An edge that accepts IS_CALIBRATED 1. -/
def acceptsRead : ClockEdge := runEdge true true true (0x00000000#32 ++ 0x00000001#32 ++ 0x15#8)

theorem witness_StepRunsDecodedCommand :
    acceptsRead.rstN = true ∧ acceptsRead.cmdValid = true ∧ acceptsRead.canAccept = true ∧
      decode acceptsRead.cmdWord = .ok (.isCalibrated 1) := ⟨rfl, rfl, rfl, rfl⟩
theorem witness_StepRunsDecodedCommand_table :
    decodeTableWord 8 0x18 = some .getFormattedOutput ∧ decodeTableWord 72 0xC0000000105 = some (.setCprAxis 1 12) := by
  decide
/-- An accepting edge, a reset edge that presents a command, and an edge that lacks either half of the handshake. -/
theorem witness_CommandsAreTakenOnlyByHandshake :
    (acceptsRead.rstN = true ∧ acceptsRead.cmdValid = true ∧ acceptsRead.cmdReady = true) ∧
    ((resetEdge 0 0).rstN = false ∧ (resetEdge 0 0).cmdValid = true ∧ (resetEdge 0 0).canAccept = true) ∧
    ((runEdge true false false 4#72).rstN = true ∧ ¬((runEdge true false false 4#72).cmdReady = true)) ∧
    ((runEdge false true false 4#72).rstN = true ∧ ¬((runEdge false true false 4#72).cmdValid = true)) := by decide
/-- A response is presented while a command is accepted, none is presented, and none is owed. -/
theorem witness_ResponsePortShowsOldestOwed :
    (acceptsRead.rstN = true ∧ acceptsRead.presents = true ∧
      afterStep { scenario with edges := [acceptsRead], pending := [9#32, 8#32] } (fun t => (t.rsp, t.pending)) =
        some (some 9#32, [8#32, 1#32])) ∧
    ((runEdge false true false 0#72).rstN = true ∧ (runEdge false true false 0#72).presents = false ∧
      afterStep { scenario with edges := [runEdge false true false 0#72], pending := [9#32] }
        (fun t => (t.rsp, t.pending)) = some (none, [9#32])) ∧
    (afterStep { scenario with edges := [acceptsRead] } (fun t => (t.rsp, t.pending)) = some (none, [1#32])) := by decide
theorem witness_NoClockEdgeHoldsTheState : scenario.edges = [] ∧ State.reset.edges = [] := ⟨rfl, rfl⟩
theorem witness_EveryCommandAnswersOnce : (∃ a b, Instr.init 1 2 = .init a b) ∧ (∃ n, Instr.setNumAxes 1 = .setNumAxes n) :=
  ⟨⟨1, 2, rfl⟩, ⟨1, rfl⟩⟩
theorem witness_RunIsFoldOfAcceptedCommands :
    ∀ e ∈ [acceptsRead, runEdge false true true 0#72, acceptsRead], e.rstN = true := by decide
theorem witness_ResetEdgeLoadsResetState :
    { scenario with edges := [resetEdge 9001 3] }.edges = resetEdge 9001 3 :: [] ∧ (resetEdge 9001 3).rstN = false := by
  decide
theorem witness_ResetStateIsDefaultReset : (resetEdge 4096 2).rstN = false ∧ (resetEdge 4096 2).cfgCpr = 4096#32 ∧
    (resetEdge 4096 2).cfgNumAxes = 2#32 := by decide
/-- A slot at the ends of its ranges, and a step that changes the counts. -/
theorem witness_EveryStepKeepsCountAndChannels :
    (blockOf 1#2 (slotOf 9000 35999 false true false true 0) (slotOf 1 3 false true false false 0)).Inv ∧
      (nextState (step (scenario.offer (encode (.update 47000000 0))))).isSome = true ∧ scenario.Inv := by decide
theorem witness_EveryStepKeepsIndexAtZeroCount :
    atZero.IndexAtZero ∧ atZero.ax0.index = true ∧
      (nextState (step (atZero.offer (encode (.update 1000000 0))))).isSome = true := by decide
theorem witness_DecodeOfEncodeIsIdentity : WellFormed (.init (-2147483648) 2147483647) := by decide
theorem witness_EncodeOfDecodeZeroesIgnoredFields :
    decode (0xFFFFFFFF#32 ++ 0x00000000#32 ++ 0x13#8) = .ok (.getCpr 0) ∧
      decode (0xFFFFFFFF#32 ++ 0xFFFFFFFF#32 ++ 0x00#8) = .ok .nop ∧
      decode (0xFFFFFC19#32 ++ 0x00000001#32 ++ 0x03#8) = .ok (.resetIndex 1 (-999)) := ⟨rfl, rfl, rfl⟩
theorem witness_OpcodeTableSelectsEachCommand :
    (0xFFFFFC19#32 ++ 0x00000001#32 ++ 0x03#8).extractLsb' 0 8 = 0x03#8 := by decide
/-- The ends of each range of reserved opcodes. -/
theorem witness_ReservedOpcodeActsAsNop :
    ∀ op ∈ [0x07#8, 0x0F#8, 0x16#8, 0x17#8, 0x19#8, 0xFF#8],
      (7 ≤ ((packWord op 0x12345678#32 0x9ABCDEF0#32).extractLsb' 0 8).toNat ∧
        ((packWord op 0x12345678#32 0x9ABCDEF0#32).extractLsb' 0 8).toNat ≤ 15) ∨
      ((packWord op 0x12345678#32 0x9ABCDEF0#32).extractLsb' 0 8).toNat = 22 ∨
      ((packWord op 0x12345678#32 0x9ABCDEF0#32).extractLsb' 0 8).toNat = 23 ∨
      25 ≤ ((packWord op 0x12345678#32 0x9ABCDEF0#32).extractLsb' 0 8).toNat := by decide
/-- Below, above and at both ends of the interval. -/
theorem witness_ClampBoundsItsArgument : (1 : Int) ≤ 9000 ∧ (0 : Int) < 1 ∧ (9000 : Int) < 9001 ∧
    clamp 1 1 9000 = 1 ∧ clamp 9000 1 9000 = 9000 := by decide
/-- Ties: both roundings of 1/2 and of 3/2. -/
theorem witness_RoundingGivesNearestInteger :
    (0 : Int) < 2 ∧ 2 * |1 - roundHalfEven 1 2 * 2| = 2 ∧ 2 * |3 - roundHalfAway 3 2 * 2| = 2 ∧
      roundHalfAway 1 2 ≠ roundHalfEven 1 2 := by decide
theorem witness_NormDeltaIsTheLoopsShorterArc : |(-4294967295 : Int)| ≤ 4294967295 := by decide
/-- The range's two ends, and the least and the greatest resolution. -/
theorem witness_CountChangeIsAtMostHalfARevolution :
    ((1 : Int) ≤ 9000 ∧ -180000000 < (180000000 : Int) ∧ (180000000 : Int) ≤ 180000000) ∧
    ((1 : Int) ≤ 1 ∧ -180000000 < (-179999999 : Int) ∧
      2 * ((-179999999 : Int) * (4 * 1)) ≤ (1 - 4 * 1) * 360000000) := by decide
theorem witness_WrapCountStaysInRange : (0 : Int) ≤ 35999 ∧ (35999 : Int) < 36000 ∧ 2 * |(-18000 : Int)| ≤ 36000 := by
  decide
theorem witness_PatternIsThePhaseTable : (-4 : Int) % 4 = 0 ∧ (-3 : Int) % 4 = 1 ∧ (2 : Int) % 4 = 2 ∧ (-1 : Int) % 4 = 3 := by
  decide
theorem witness_ChannelsFollowCountAfterStep : (slotOf 4096 16383 false true false true 0).Inv := by decide
/-- A count at the end of its range and a change for each clause. -/
theorem witness_DecoderReadsOnlySmallCountChanges :
    ((0 : Int) ≤ 3 ∧ (3 : Int) < 4 ∧ (4 : Int) ∣ 4) ∧ |(1 : Int)| ≤ 1 ∧ (4 : Int) ∣ -8 ∧ (-2 : Int) % 4 = 2 := by decide
/-- A change of 3 counts either way, from both ends of the range of a count (43_output_commands.md R90). -/
theorem witness_DecoderReadsOnlySmallCountChanges_three :
    ((0 : Int) ≤ 0 ∧ (0 : Int) < 4) ∧
    observedStep (pattern 3) (pattern (wrapCount 3 3 4)) = some (-1) ∧
    observedStep (pattern 0) (pattern (wrapCount 0 (-3) 4)) = some 1 := by decide
theorem witness_UpdateAdvancesActiveSlots :
    (scenario.Inv ∧ scenario.ax0.calibrated = true ∧ (scenario.numAxes = 2#2 ∧ scenario.ax1.calibrated = true)) ∧
    ({ scenario with numAxes := 1#2, ax1 := AxisState.reset } : State).Inv := by decide
/-- Each case of the advance: no count change, a change, the override, an anchor angle without it. -/
theorem witness_UpdateAdvancesActiveSlots_cases :
    scenario.ax0.countChange 46010000 = 0 ∧ scenario.ax0.countChange 47000000 = 46 ∧
      (AnchorAngle (-999) ∧ (atZero.ax0.advance (-999)).channelA = false ∧ (atZero.ax0.advance (-999)).channelB = false) ∧
      (AnchorAngle 360000999 ∧ (scenario.ax0.advance 360000999).channelA = true) := by decide
theorem witness_UpdateNeedsCalibratedActiveSlots :
    State.reset.ax0.calibrated = false ∧
    (({ atZero with ax1 := AxisState.reset } : State).numAxes = 2#2 ∧
      ({ atZero with ax1 := AxisState.reset } : State).ax1.calibrated = false) ∧ lowered.numAxes ≠ 2#2 := by decide
theorem witness_UpdateSlotsAreIndependent :
    scenario.numAxes = ({ scenario with ax1 := atZero.ax1 } : State).numAxes ∧ scenario.updateReady = true ∧
      ({ scenario with ax1 := atZero.ax1 } : State).updateReady = true ∧
      scenario.ax0 = ({ scenario with ax1 := atZero.ax1 } : State).ax0 ∧ scenario.ax1 ≠ atZero.ax1 := by decide
theorem witness_UpdateIndexMeansCountZero : scenario.updateReady = true ∧ scenario.numAxes = 2#2 := by decide
/-- An axis of each kind. -/
theorem witness_SetCprAxisReconfiguresOneSlot : (-1 : Int) ≠ 0 ∧ (-1 : Int) ≠ 1 ∧
    selectSlot 0 = some .slot0 ∧ selectSlot 1 = some .slot1 := by decide
theorem witness_InactiveSlotIsKept : lowered.numAxes ≠ 2#2 ∧ (∀ c, Instr.setCprAxis 0 5 ≠ .setCpr c) ∧
    (∀ c, Instr.setCprAxis 0 5 ≠ .setCprAxis 1 c) ∧ (1 : Int) ≤ 1 ∧ (2 : Int) ≤ 2 :=
  ⟨by decide, fun _ => nofun, fun _ => nofun, by decide, by decide⟩
theorem witness_PinsFollowTheSnapshot :
    ((runEdge true false true 4#72).rstN = true ∧
      ¬((runEdge true false true 4#72).cmdValid = true ∧ (runEdge true false true 4#72).cmdReady = true)) ∧
    (resetEdge 4096 2).rstN = false := by decide
/-- Every kind of register is written by some command. -/
theorem witness_OnlyNamedCommandsWriteARegister :
    after (.setNumAxes 1) scenario State.numAxes ≠ some scenario.numAxes ∧
    after (.setCprAxis 1 5) scenario (fun t => t.ax1.cpr) ≠ some scenario.ax1.cpr ∧
    after (.update 0 0) scenario (fun t => t.ax0.positionCount) ≠ some scenario.ax0.positionCount ∧
    after (.setCpr 5) scenario (fun t => t.ax0.channelA) ≠ some scenario.ax0.channelA ∧
    after (.resetIndex 1 0) State.reset (fun t => t.ax1.index) ≠ some State.reset.ax1.index ∧
    after (.init 5 5) State.reset (fun t => t.ax0.calibrated) ≠ some State.reset.ax0.calibrated ∧
    after (.update 47000000 0) scenario (fun t => t.ax0.previousAngle) ≠ some scenario.ax0.previousAngle := by decide
/-- A reset edge over a calibrated block, and an edge that accepts INIT on an uncalibrated one. -/
theorem witness_OnlyInitCalibratesOnlyResetClears :
    (scenario.ax0.calibrated = true ∧ (resetEdge 4096 2).rstN = false) ∧
    (State.reset.ax0.calibrated = false ∧ (acceptEdge (encode (.init 5 5))).rstN = true ∧
      afterStep (State.reset.offer (encode (.init 5 5))) (fun t => (t.ax0.calibrated, t.ax1.calibrated)) =
        some (true, true)) := by decide
theorem witness_RepeatedCommandChangesNothing : WellFormed (.update (-2147483648) 2147483647) ∧ scenario.Inv := by decide
theorem witness_StartingAngleIsNeverObserved :
    ({ scenario with ax0 := { scenario.ax0 with startingAngle := 9#32 } } : State).forgetStart = scenario.forgetStart ∧
      ({ scenario with ax0 := { scenario.ax0 with startingAngle := 9#32 } } : State) ≠ scenario := by decide
theorem witness_AssembledCommandsAreWellFormed :
    assembleChars "INIT u-2147483648, 2147.483647".toList = .ok (some (.init (-2147483648) 2147483647)) := by rfl
/-- Both sides of the limit at 4096 cycles (V-UPD-21, V-UPD-22). -/
theorem witness_TrackingLimitIsOneAndAHalfCounts :
    2 * |(32958 : Int) * 16384| < 3 * 360000000 ∧ ¬(2 * |(32959 : Int) * 16384| < 3 * 360000000) := by decide

end Sys2Proof.Tests
end

section
/-! The reset edge and the default configuration inputs (00_scope.md R6; 10_state.md R29). -/

namespace Sys2Proof.Machine

/-- A reset edge only loads the reset state, whatever else the ports carry (70_reset_and_hazards.md R105). -/
theorem step_of_reset_edge {s : State} {e : ClockEdge} {rest : List ClockEdge} (hedges : s.edges = e :: rest)
    (hreset : e.rstN = false) :
    step s = .next (State.loadReset { s with edges := rest } e.cfgCpr e.cfgNumAxes) := by
  simp [step, takeEdge, hedges, clockEdge, hreset]

/-- The default level of `cfg_cpr` is inside the clamp's bounds, so the slot takes it as it is. -/
theorem resetSlot_cprDefault : resetSlot Config.cprDefault = AxisState.reset := by decide

/-- The default level of `cfg_num_axes` is inside the clamp's bounds, so both slots are active. -/
theorem clampAxes_numAxesDefault : clampAxes Config.numAxesDefault.toInt = State.reset.numAxes := by decide

/-- Loading reset with the default levels, from any state, gives the architectural state of `State.reset`. -/
theorem loadReset_default_sameArch (s : State) :
    (s.loadReset Config.cprDefault Config.numAxesDefault).SameArch State.reset :=
  ⟨clampAxes_numAxesDefault, resetSlot_cprDefault, resetSlot_cprDefault⟩

/-- Settles O7: the step is the load of reset (`step_of_reset_edge`), and the edge's levels are the defaults. -/
theorem resetStateIsDefaultReset : Obligations.ResetStateIsDefaultReset := by
  intro s e rest hedges hreset hcpr hnum
  refine ⟨_, step_of_reset_edge hedges hreset, ?_⟩
  rw [hcpr, hnum]
  exact loadReset_default_sameArch _

end Sys2Proof.Machine
end

section
/-! The clamped registers (40_axis_functions.md R58; 10_state.md R15 to R17), read as integers. -/

namespace Sys2Proof.Machine

/-- An integer that fits a register's width is stored as it is. -/
theorem toNat_ofInt_of_lt {w : Nat} {v : Int} (hnonneg : 0 ≤ v) (hlt : v < 2 ^ w) :
    ((BitVec.ofInt w v).toNat : Int) = v := by
  have hmod : v % ((2 ^ w : Nat) : Int) = v := Int.emod_eq_of_lt hnonneg (by exact_mod_cast hlt)
  rw [BitVec.toNat_ofInt, hmod, Int.toNat_of_nonneg hnonneg]

/-- The clamp is the library's, wherever its bounds are in order. -/
theorem clamp_eq_max_min (v : Int) {lo hi : Int} (hle : lo ≤ hi) : clamp v lo hi = max lo (min v hi) := by
  unfold clamp
  split
  · omega
  · split <;> omega

/-- A resolution is clamped to 1 to 9000 (00_scope.md R5). -/
theorem clamp_cpr (c : Int) : clamp c Config.cprMin Config.cprMax = max 1 (min c 9000) :=
  clamp_eq_max_min c (by decide)

/-- An axis count is clamped to 1 or 2 (00_scope.md R4). -/
theorem clamp_numAxes (n : Int) : clamp n Config.numAxesMin Config.numAxesMax = max 1 (min n 2) :=
  clamp_eq_max_min n (by decide)

/-- The `cpr` register holds every clamped resolution (R16). -/
theorem toNat_clampedCpr (c : Int) :
    ((BitVec.ofInt 14 (clamp c Config.cprMin Config.cprMax)).toNat : Int) = max 1 (min c 9000) := by
  rw [clamp_cpr, toNat_ofInt_of_lt] <;> omega

/-- The `ppr` register holds four times every clamped resolution (R17). -/
theorem toNat_clampedPpr (c : Int) :
    (BitVec.ofInt 16 (4 * clamp c Config.cprMin Config.cprMax)).toNat =
      4 * (BitVec.ofInt 14 (clamp c Config.cprMin Config.cprMax)).toNat := by
  have hcpr := toNat_clampedCpr c
  have hppr : ((BitVec.ofInt 16 (4 * clamp c Config.cprMin Config.cprMax)).toNat : Int) =
      4 * max 1 (min c 9000) := by
    rw [clamp_cpr, toNat_ofInt_of_lt] <;> omega
  omega

/-- The `numAxes` register holds every clamped axis count (R15). -/
theorem toNat_clampAxes (n : Int) : ((clampAxes n).toNat : Int) = max 1 (min n 2) := by
  rw [clampAxes, clamp_numAxes, toNat_ofInt_of_lt] <;> omega

/-- The two values an axis count is clamped to. -/
theorem clampAxes_eq (n : Int) : clampAxes n = if n ≤ 1 then 1#2 else 2#2 := by
  have h := toNat_clampAxes n
  apply BitVec.eq_of_toNat_eq
  split <;> simp only [BitVec.toNat_ofNat] <;> omega

end Sys2Proof.Machine
end

section
/-! The invariant of a slot (10_state.md R24, R25) under each operation on a slot. -/

namespace Sys2Proof.Machine

/-- The invariant reads the two resolution registers, the count and the channels only. -/
theorem AxisState.Inv.congr {x y : AxisState} (h : x.Inv) (hcpr : y.cpr = x.cpr) (hppr : y.ppr = x.ppr)
    (hcount : y.positionCount = x.positionCount)
    (hchannels : (y.channelA, y.channelB) = (x.channelA, x.channelB)) : y.Inv := by
  unfold AxisState.Inv
  rw [hcpr, hppr, hcount, hchannels]
  exact h

/-- A slot at count 0 with both channels 0 satisfies the invariant when its resolution does. -/
theorem inv_of_count_zero {x : AxisState} (hmin : 1 ≤ x.cpr.toNat) (hmax : x.cpr.toNat ≤ 9000)
    (hppr : x.ppr.toNat = 4 * x.cpr.toNat) (hcount : x.positionCount = 0#16) (ha : x.channelA = false)
    (hb : x.channelB = false) : x.Inv := by
  refine ⟨hmin, hmax, hppr, ?_, ?_⟩
  · rw [hcount, hppr, BitVec.toNat_ofNat]
    omega
  · rw [hcount, ha, hb]
    rfl

theorem calibrate_inv {x : AxisState} (h : x.Inv) (a : Int) : (x.calibrate a).Inv := by
  obtain ⟨hmin, hmax, hppr, -, -⟩ := h
  exact inv_of_count_zero hmin hmax hppr rfl rfl rfl

/-- A resolution change needs no invariant before it: it writes all that the invariant reads. -/
theorem configure_inv (x : AxisState) (c : Int) : (x.configure c).Inv := by
  have hcpr := toNat_clampedCpr c
  exact inv_of_count_zero (by rw [configure_cpr]; omega) (by rw [configure_cpr]; omega) (toNat_clampedPpr c)
    rfl rfl rfl

theorem resetSlot_inv (cfgCpr : BitVec 32) : (resetSlot cfgCpr).Inv :=
  (configure_inv (resetSlot cfgCpr) cfgCpr.toInt).congr rfl rfl rfl rfl

/-- The override clears the count only where both channels are 0 already, so the pattern still fits
(41_sample_commands.md R73). -/
theorem anchorOverride_inv {x : AxisState} (h : x.Inv) (a : Int) : (x.anchorOverride a).Inv := by
  cases hat : x.atAnchor a with
  | false => exact h.congr (by simp) (by simp) (by simp [hat]) (by simp)
  | true =>
    obtain ⟨hmin, hmax, hppr, -, -⟩ := h
    obtain ⟨⟨-, ha⟩, hb⟩ : (nearAnchor a = true ∧ x.channelA = false) ∧ x.channelB = false := by
      simpa [AxisState.atAnchor] using hat
    exact inv_of_count_zero (by simpa using hmin) (by simpa using hmax) (by simpa using hppr)
      (by simp [hat]) (by simpa using ha) (by simpa using hb)

/-- The moved count is the wrapped one: its register is wide enough for every count below `ppr`. -/
theorem toNat_moveCount {x : AxisState} (h : x.Inv) (k : Int) :
    ((x.moveCount k).positionCount.toNat : Int) = wrapCount x.positionCount.toNat k x.ppr.toNat := by
  obtain ⟨hmin, hmax, hppr, -, -⟩ := h
  have hpos : (0 : Int) < x.ppr.toNat := by omega
  have hlt : wrapCount x.positionCount.toNat k x.ppr.toNat < x.ppr.toNat := Int.emod_lt_of_pos _ hpos
  rw [moveCount_positionCount]
  exact toNat_ofInt_of_lt (Int.emod_nonneg _ hpos.ne') (by omega)

/-- The count moves and the channels follow it: for a zero change both stay, else the channels are written anew
(41_sample_commands.md R71 steps 4 and 5; log entry 14). -/
theorem moveCount_updateQuadratureStates_inv {x : AxisState} (h : x.Inv) (k : Int) :
    ((x.moveCount k).updateQuadratureStates k).Inv := by
  have hcount := toNat_moveCount h k
  obtain ⟨hmin, hmax, hppr, hlt, hchannels⟩ := h
  have hpos : (0 : Int) < x.ppr.toNat := by omega
  refine ⟨by simpa using hmin, by simpa using hmax, by simpa using hppr, ?_, ?_⟩
  · have hwrap : wrapCount x.positionCount.toNat k x.ppr.toNat < x.ppr.toNat := Int.emod_lt_of_pos _ hpos
    rw [updateQuadratureStates_positionCount, updateQuadratureStates_ppr, moveCount_ppr]
    omega
  · rw [updateQuadratureStates_channels, updateQuadratureStates_positionCount]
    split
    · next hk =>
      have hsame : wrapCount x.positionCount.toNat k x.ppr.toNat = x.positionCount.toNat := by
        rw [wrapCount, hk, add_zero]
        exact Int.emod_eq_of_lt (by omega) (by omega)
      rw [hcount, hsame]
      exact hchannels
    · rfl

/-- The eight steps of UPDATE keep the invariant: the move of count and channels does, and so does the override; the
other steps write nothing the invariant reads. -/
theorem advance_inv {x : AxisState} (h : x.Inv) (cur : Int) : (x.advance cur).Inv := by
  have hmoved := moveCount_updateQuadratureStates_inv h (x.countChange cur)
  have hindexed := hmoved.congr (setIndexFromCount_cpr _) (setIndexFromCount_ppr _)
    (setIndexFromCount_positionCount _) rfl
  exact (anchorOverride_inv hindexed cur).congr (keepAngle_cpr _ cur) (keepAngle_ppr _ cur)
    (keepAngle_positionCount _ cur) rfl

/-- The invariant of the block is one of its architectural state. -/
theorem State.Inv.congr {s t : State} (h : s.Inv) (hsame : t.SameArch s) : t.Inv := by
  obtain ⟨hnum, h0, h1⟩ := hsame
  unfold State.Inv
  rw [hnum, h0, h1]
  exact h

theorem clampAxes_one_or_two (n : Int) : clampAxes n = 1#2 ∨ clampAxes n = 2#2 := by
  rw [clampAxes_eq]
  split
  · exact .inl rfl
  · exact .inr rfl

/-- Reset establishes the invariant, whatever the levels of the configuration inputs. -/
theorem loadReset_inv (s : State) (cfgCpr cfgNumAxes : BitVec 32) : (s.loadReset cfgCpr cfgNumAxes).Inv :=
  ⟨resetSlot_inv cfgCpr, resetSlot_inv cfgCpr, clampAxes_one_or_two _⟩

end Sys2Proof.Machine
end

section
/-! What a command can do to the architectural state, said once for all commands. -/

namespace Sys2Proof.Machine

/-- What a command can make of the record `x` of the slot that the selector `axis` names: it is kept, or one operation on
a slot is applied to it. Only the two resolution commands reach a slot that is not active (10_state.md R14). -/
inductive SlotWrite (axis : Int) (active : Prop) (x : AxisState) : Instr → AxisState → Prop
  | kept (i : Instr) : SlotWrite axis active x i x
  | calibrated (a b angle : Int) (hactive : active) : SlotWrite axis active x (.init a b) (x.calibrate angle)
  | advanced (a b angle : Int) (hactive : active) : SlotWrite axis active x (.update a b) (x.advance angle)
  | overridden (a : Int) (hactive : active) : SlotWrite axis active x (.resetIndex axis a) (x.anchorOverride a)
  | configured (c : Int) : SlotWrite axis active x (.setCpr c) (x.configure c)
  | configuredAxis (c : Int) : SlotWrite axis active x (.setCprAxis axis c) (x.configure c)

/-- What a command can do to the architectural state, from `s` to `t`: each slot is written as `SlotWrite` says, and
SET_NUM_AXES alone writes the axis count. -/
structure CommandWrites (i : Instr) (s t : State) : Prop where
  numAxes : t.numAxes = s.numAxes ∨ ∃ n, i = .setNumAxes n ∧ t.numAxes = clampAxes n
  slot0 : SlotWrite 0 True s.ax0 i t.ax0
  slot1 : SlotWrite 1 (s.numAxes = 2#2) s.ax1 i t.ax1

/-- A command that only responds writes nothing. -/
theorem respond_writes (i : Instr) (s : State) (v : BitVec 32) : CommandWrites i s (s.respond v) :=
  ⟨.inl rfl, .kept i, .kept i⟩

/-- A command that writes every active slot reaches slot 1 only while it is active. -/
theorem mapActive_writes {i : Instr} {s : State} {f g : AxisState → AxisState} (v : BitVec 32)
    (hf : SlotWrite 0 True s.ax0 i (f s.ax0))
    (hg : s.numAxes = 2#2 → SlotWrite 1 (s.numAxes = 2#2) s.ax1 i (g s.ax1)) :
    CommandWrites i s ((s.mapActive f g).respond v) := by
  refine ⟨.inl rfl, hf, ?_⟩
  rw [respond_ax1, mapActive_ax1]
  split
  · next htwo => exact hg ((twoAxes_iff s).mp htwo)
  · exact .kept i

/-- Every command answers a next state, and writes no more than `CommandWrites` allows. -/
theorem exec_writes (i : Instr) (s : State) : ∃ t, exec i s = .next t ∧ CommandWrites i s t := by
  cases i with
  | init a b =>
    exact ⟨_, rfl, mapActive_writes _ (.calibrated a b a trivial) (.calibrated a b b)⟩
  | update a b =>
    simp only [exec, execUpdate]
    split
    · exact ⟨_, rfl, mapActive_writes _ (.advanced a b a trivial) (.advanced a b b)⟩
    · exact ⟨_, rfl, respond_writes _ s _⟩
  | resetIndex axis a =>
    simp only [exec, execResetIndex]
    rcases activeSlot_cases s axis with ⟨rfl, hslot⟩ | ⟨rfl, htwo, hslot⟩ | ⟨-, -, hslot⟩ <;> rw [hslot]
    · exact ⟨_, rfl, .inl rfl, .overridden a trivial, .kept _⟩
    · exact ⟨_, rfl, .inl rfl, .kept _, .overridden a ((twoAxes_iff s).mp htwo)⟩
    · exact ⟨_, rfl, respond_writes _ s _⟩
  | setCpr c => exact ⟨_, rfl, .inl rfl, .configured c, .configured c⟩
  | setCprAxis axis c =>
    simp only [exec, execSetCprAxis]
    rcases selectSlot_cases axis with ⟨rfl, hslot⟩ | ⟨rfl, hslot⟩ | ⟨-, -, hslot⟩ <;> rw [hslot]
    · exact ⟨_, rfl, .inl rfl, .configuredAxis c, .kept _⟩
    · exact ⟨_, rfl, .inl rfl, .kept _, .configuredAxis c⟩
    · exact ⟨_, rfl, respond_writes _ s _⟩
  | setNumAxes n => exact ⟨_, rfl, .inr ⟨n, rfl, rfl⟩, .kept _, .kept _⟩
  | _ => exact ⟨_, rfl, respond_writes _ s _⟩

/-- An accepted word runs one command whatever the state: the one it decodes to, or NOP for a reserved opcode
(30_encoding.md R52). -/
theorem execWord_runs_command (w : BitVec 72) :
    ∃ i, (∀ s, execWord w s = exec i s) ∧ (decode w = .ok i ∨ i = .nop) := by
  cases hdecode : decode w with
  | ok i => exact ⟨i, fun s => by simp only [execWord, hdecode], .inl rfl⟩
  | error r => exact ⟨.nop, fun s => by simp only [execWord, hdecode]; rfl, .inr rfl⟩

/-- An accepting edge serves the response port and executes the word (30_encoding.md R45). -/
theorem step_of_accepting_edge {s : State} {e : ClockEdge} {rest : List ClockEdge} (hedges : s.edges = e :: rest)
    (hrun : e.rstN = true) (haccepts : e.accepts = true) :
    step s = execWord e.cmdWord (State.present { s with edges := rest } e.presents) := by
  simp [step, takeEdge, hedges, clockEdge, hrun, haccepts]

/-- An edge outside reset that accepts nothing only serves the response port. -/
theorem step_of_idle_edge {s : State} {e : ClockEdge} {rest : List ClockEdge} (hedges : s.edges = e :: rest)
    (hrun : e.rstN = true) (hidle : e.accepts = false) :
    step s = .next (State.present { s with edges := rest } e.presents) := by
  simp [step, takeEdge, hedges, clockEdge, hrun, hidle]

/-- Serving the response port after an edge is taken touches no architectural state. -/
theorem present_sameArch (s : State) (rest : List ClockEdge) (b : Bool) :
    (State.present { s with edges := rest } b).SameArch s :=
  ⟨present_numAxes _ b, present_ax0 _ b, present_ax1 _ b⟩

end Sys2Proof.Machine
end

section
/-! Consequences of what a command can write: the invariant (R24, R25), the writers of each register (R15 to R23), the
calibration flag (R21, R26) and the inactive slot (R14). -/

namespace Sys2Proof.Machine

theorem SlotWrite.inv {axis : Int} {active : Prop} {x y : AxisState} {i : Instr}
    (h : SlotWrite axis active x i y) (hx : x.Inv) : y.Inv := by
  cases h with
  | kept => exact hx
  | calibrated a b angle => exact calibrate_inv hx angle
  | advanced a b angle => exact advance_inv hx angle
  | overridden a => exact anchorOverride_inv hx a
  | configured c => exact configure_inv x c
  | configuredAxis c => exact configure_inv x c

theorem CommandWrites.inv {i : Instr} {s t : State} (h : CommandWrites i s t) (hs : s.Inv) : t.Inv := by
  obtain ⟨h0, h1, hnum⟩ := hs
  refine ⟨h.slot0.inv h0, h.slot1.inv h1, ?_⟩
  rcases h.numAxes with hkept | ⟨n, -, hset⟩
  · rw [hkept]; exact hnum
  · rw [hset]; exact clampAxes_one_or_two n

/-- Settles O9: a reset edge establishes the invariant, an accepted command keeps it (`CommandWrites.inv`), and every
other step leaves the architectural state as it was. -/
theorem everyStepKeepsCountAndChannels : Obligations.EveryStepKeepsCountAndChannels := by
  intro s t hs hstep
  rcases takeEdge_cases s with ⟨-, h⟩ | ⟨e, rest, -, ⟨-, h⟩ | ⟨-, -, h⟩ | ⟨-, -, h⟩⟩ <;> rw [step, h] at hstep
  · cases hstep
    exact hs
  · cases hstep
    exact loadReset_inv _ _ _
  · obtain ⟨i, hword, -⟩ := execWord_runs_command e.cmdWord
    obtain ⟨u, hexec, hwrites⟩ := exec_writes i (State.present { s with edges := rest } e.presents)
    rw [hword, hexec] at hstep
    cases hstep
    exact hwrites.inv (hs.congr (present_sameArch s rest e.presents))
  · cases hstep
    exact hs.congr (present_sameArch s rest e.presents)

/-- Settles O8: `State.reset` is the architectural state that a reset edge with the default levels loads, which has the
invariant, and its index bits are 0. -/
theorem resetStateSatisfiesInvariants : Obligations.ResetStateSatisfiesInvariants := by
  obtain ⟨hnum, h0, h1⟩ := loadReset_default_sameArch State.reset
  exact ⟨(loadReset_inv State.reset _ _).congr ⟨hnum.symm, h0.symm, h1.symm⟩, nofun, nofun⟩

/-- Settles O6: the loaded slot holds the clamped level of `cfg_cpr`, four times it, and 0 in every other field. -/
theorem resetEdgeLoadsResetState : Obligations.ResetEdgeLoadsResetState := by
  intro s e rest hedges hreset
  refine ⟨_, step_of_reset_edge hedges hreset, toNat_clampAxes _, ?_, rfl, rfl, rfl⟩
  rintro x (rfl | rfl) <;>
    exact ⟨toNat_clampedCpr _, toNat_clampedPpr _, rfl, rfl, rfl, rfl, rfl, rfl, rfl⟩

/-- A slot that is not active is kept by every command but the resolution commands for it. -/
theorem SlotWrite.eq_of_inactive {axis : Int} {active : Prop} {x y : AxisState} {i : Instr}
    (h : SlotWrite axis active x i y) (hinactive : ¬active) (hcpr : ∀ c, i ≠ .setCpr c)
    (hcprAxis : ∀ c, i ≠ .setCprAxis axis c) : y = x := by
  cases h with
  | kept => rfl
  | calibrated _ _ _ hactive => exact absurd hactive hinactive
  | advanced _ _ _ hactive => exact absurd hactive hinactive
  | overridden _ hactive => exact absurd hactive hinactive
  | configured c => exact absurd rfl (hcpr c)
  | configuredAxis c => exact absurd rfl (hcprAxis c)

/-- Settles O40: what a command writes of an inactive slot (`SlotWrite.eq_of_inactive`), and the two values of the axis
count. -/
theorem inactiveSlotIsKept : Obligations.InactiveSlotIsKept := by
  refine ⟨fun i s hinactive hcpr hcprAxis => ?_, fun n m s hn hm => ?_⟩
  · obtain ⟨t, hexec, hwrites⟩ := exec_writes i s
    exact ⟨t, hexec, hwrites.slot1.eq_of_inactive hinactive hcpr hcprAxis⟩
  · have hlowered : clampAxes n = 1#2 := by rw [clampAxes_eq, if_pos hn]
    have hraised : clampAxes m = 2#2 := by rw [clampAxes_eq, if_neg (by omega)]
    exact ⟨_, _, rfl, rfl, hlowered, hraised, rfl, rfl⟩

/-- The operations on a slot write no register but those whose rule names the command: in each case the fields that
differ are read off the field lemmas of the one operation. -/
theorem SlotWrite.writtenOnlyBy {axis : Int} {active : Prop} {x y : AxisState} {i : Instr}
    (h : SlotWrite axis active x i y) : WrittenOnlyBy i axis x y := by
  unfold WrittenOnlyBy
  cases h with
  | kept => simp
  | calibrated => simp
  | advanced => simp
  | overridden => simp
  | configured => simp
  | configuredAxis => simp

/-- Settles O46: the slots by `SlotWrite.writtenOnlyBy`, and the axis count is written by SET_NUM_AXES alone. -/
theorem onlyNamedCommandsWriteARegister : Obligations.OnlyNamedCommandsWriteARegister := by
  intro i s
  obtain ⟨t, hexec, hwrites⟩ := exec_writes i s
  refine ⟨t, hexec, fun hchanged => ?_, hwrites.slot0.writtenOnlyBy, hwrites.slot1.writtenOnlyBy⟩
  rcases hwrites.numAxes with hkept | ⟨n, hi, -⟩
  · exact absurd hkept hchanged
  · exact ⟨n, hi⟩

/-- A command leaves a slot's calibration flag, or it is INIT, the slot is active and the flag rises. -/
theorem SlotWrite.calibrated_cases {axis : Int} {active : Prop} {x y : AxisState} {i : Instr}
    (h : SlotWrite axis active x i y) :
    y.calibrated = x.calibrated ∨ (y.calibrated = true ∧ active ∧ ∃ a b, i = .init a b) := by
  cases h with
  | calibrated a b _ hactive => exact .inr ⟨rfl, hactive, a, b, rfl⟩
  | kept => exact .inl rfl
  | advanced => exact .inl (advance_calibrated _ _)
  | overridden => exact .inl (anchorOverride_calibrated _ _)
  | configured => exact .inl rfl
  | configuredAxis => exact .inl rfl

theorem SlotWrite.calibrated_stays {axis : Int} {active : Prop} {x y : AxisState} {i : Instr}
    (h : SlotWrite axis active x i y) (hx : x.calibrated = true) : y.calibrated = true := by
  rcases h.calibrated_cases with hsame | ⟨hy, -, -⟩
  · rw [hsame, hx]
  · exact hy

theorem SlotWrite.init_of_calibrated_rises {axis : Int} {active : Prop} {x y : AxisState} {i : Instr}
    (h : SlotWrite axis active x i y) (hx : x.calibrated = false) (hy : y.calibrated = true) :
    active ∧ ∃ a b, i = .init a b := by
  rcases h.calibrated_cases with hsame | ⟨-, hactive, hinit⟩
  · simp [hsame, hx] at hy
  · exact ⟨hactive, hinit⟩

/-- Settles O47, by the three kinds of edge: reset clears both flags, an accepted word runs a command, which is INIT where
a flag rises, and any other edge leaves both slots. -/
theorem onlyInitCalibratesOnlyResetClears : Obligations.OnlyInitCalibratesOnlyResetClears := by
  intro s e rest hedges
  obtain ⟨hnum, h0, h1⟩ := present_sameArch s rest e.presents
  cases hrun : e.rstN with
  | false => exact ⟨_, step_of_reset_edge hedges hrun, fun _ => ⟨rfl, rfl⟩, nofun⟩
  | true =>
    cases haccepts : e.accepts with
    | false =>
      refine ⟨_, step_of_idle_edge hedges hrun haccepts, nofun, fun _ => ?_⟩
      rw [h0, h1]
      exact ⟨id, id, fun ht hs => by simp [hs] at ht, fun ht hs => by simp [hs] at ht⟩
    | true =>
      obtain ⟨i, hword, hdecode⟩ := execWord_runs_command e.cmdWord
      obtain ⟨t, hexec, hwrites⟩ := exec_writes i (State.present { s with edges := rest } e.presents)
      have hslot0 := hwrites.slot0
      have hslot1 := hwrites.slot1
      rw [h0] at hslot0
      rw [hnum, h1] at hslot1
      have hdecoded : (∃ a b, i = .init a b) → ∃ a b, decode e.cmdWord = .ok (.init a b) := by
        rintro ⟨a, b, rfl⟩
        exact ⟨a, b, hdecode.resolve_right nofun⟩
      refine ⟨t, by rw [step_of_accepting_edge hedges hrun haccepts, hword, hexec], nofun, fun _ =>
        ⟨hslot0.calibrated_stays, hslot1.calibrated_stays, fun ht hs => ?_, fun ht hs => ?_⟩⟩
      · obtain ⟨-, hinit⟩ := hslot0.init_of_calibrated_rises hs ht
        exact ⟨rfl, hdecoded hinit⟩
      · obtain ⟨htwo, hinit⟩ := hslot1.init_of_calibrated_rises hs ht
        exact ⟨rfl, htwo, hdecoded hinit⟩

end Sys2Proof.Machine
end

section
/-! `startingAngle` is never observed (10_state.md R22): every operation of the machine commutes with forgetting it, and
every reading is the same once it is forgotten. -/

namespace Sys2Proof.Machine

section
variable (x : AxisState) (s : State) (a k : Int)

theorem forgetStart_forgetStart : x.forgetStart.forgetStart = x.forgetStart := rfl

/-- INIT writes `startingAngle` itself, so the two sides agree only once it is forgotten again. -/
theorem forgetStart_calibrate : (x.forgetStart.calibrate a).forgetStart = (x.calibrate a).forgetStart := rfl
theorem forgetStart_configure : x.forgetStart.configure a = (x.configure a).forgetStart := rfl
theorem forgetStart_countChange : x.forgetStart.countChange a = x.countChange a := rfl
theorem forgetStart_moveCount : x.forgetStart.moveCount k = (x.moveCount k).forgetStart := rfl
theorem forgetStart_updateQuadratureStates :
    x.forgetStart.updateQuadratureStates k = (x.updateQuadratureStates k).forgetStart := by
  unfold AxisState.updateQuadratureStates; split <;> rfl
theorem forgetStart_setIndexFromCount : x.forgetStart.setIndexFromCount = x.setIndexFromCount.forgetStart := rfl
theorem forgetStart_atAnchor : x.forgetStart.atAnchor a = x.atAnchor a := rfl
theorem forgetStart_anchorOverride : x.forgetStart.anchorOverride a = (x.anchorOverride a).forgetStart := by
  unfold AxisState.anchorOverride
  rw [forgetStart_atAnchor]
  split <;> rfl
theorem forgetStart_keepAngle : x.forgetStart.keepAngle a = (x.keepAngle a).forgetStart := rfl
theorem forgetStart_advance : x.forgetStart.advance a = (x.advance a).forgetStart := by
  simp only [AxisState.advance, forgetStart_countChange, forgetStart_moveCount, forgetStart_updateQuadratureStates,
    forgetStart_setIndexFromCount, forgetStart_anchorOverride, forgetStart_keepAngle]

theorem forgetStart_twoAxes : s.forgetStart.twoAxes = s.twoAxes := rfl
theorem forgetStart_updateReady : s.forgetStart.updateReady = s.updateReady := rfl
theorem forgetStart_snapshot : s.forgetStart.snapshot = s.snapshot := rfl
theorem forgetStart_pins : s.forgetStart.pins = s.pins := rfl
theorem forgetStart_setSlot (i : Slot) :
    s.forgetStart.setSlot i x.forgetStart = (s.setSlot i x).forgetStart := by cases i <;> rfl
theorem forgetStart_slot (i : Slot) : s.forgetStart.slot i = (s.slot i).forgetStart := by cases i <;> rfl
theorem forgetStart_active (i : Slot) : s.forgetStart.active i = s.active i := by cases i <;> rfl

theorem forgetStart_activeSlot (axis : Int) : s.forgetStart.activeSlot axis = s.activeSlot axis := by
  simp only [State.activeSlot, forgetStart_active]

/-- A gated report of a field other than `startingAngle`. -/
theorem forgetStart_report (axis : Int) {f : AxisState → BitVec 32} (hf : ∀ x, f x.forgetStart = f x) :
    s.forgetStart.report axis f = s.report axis f := by
  simp only [State.report, forgetStart_activeSlot, forgetStart_slot, hf]

/-- An ungated report of a field other than `startingAngle`. -/
theorem forgetStart_reportStored (axis : Int) {f : AxisState → BitVec 32} (hf : ∀ x, f x.forgetStart = f x) :
    s.forgetStart.reportStored axis f = s.reportStored axis f := by
  simp only [State.reportStored, forgetStart_slot, hf]

/-- Writing the active slots, each by an operation that does not read `startingAngle`. -/
theorem forgetStart_mapActive {f g : AxisState → AxisState}
    (hf : ∀ x, (f x.forgetStart).forgetStart = (f x).forgetStart)
    (hg : ∀ x, (g x.forgetStart).forgetStart = (g x).forgetStart) :
    (s.forgetStart.mapActive f g).forgetStart = (s.mapActive f g).forgetStart := by
  have hax0 : (s.forgetStart.mapActive f g).ax0.forgetStart = (s.mapActive f g).ax0.forgetStart := hf s.ax0
  have hax1 : (s.forgetStart.mapActive f g).ax1.forgetStart = (s.mapActive f g).ax1.forgetStart := by
    rw [mapActive_ax1, mapActive_ax1, forgetStart_twoAxes]
    split
    · exact hg s.ax1
    · rfl
  unfold State.forgetStart at hax0 hax1 ⊢
  rw [hax0, hax1]
  rfl

theorem forgetStart_present (b : Bool) : s.forgetStart.present b = (s.present b).forgetStart := by
  have hpending : s.forgetStart.pending = s.pending := rfl
  unfold State.present
  rw [hpending]
  split <;> rfl

end

/-- The outcomes of a command, or of a step, from a state and from the same state with `startingAngle` forgotten: two next
states equal apart from `startingAngle`. -/
def AgreeApartFromStart (o o' : Host.Outcome State Fault Refusal) : Prop :=
  ∃ t t', o = .next t ∧ o' = .next t' ∧ t'.forgetStart = t.forgetStart

/-- A command that only responds, with a response that does not depend on `startingAngle`. -/
theorem respond_agreeApartFromStart (s : State) {v v' : BitVec 32} (hv : v' = v) :
    AgreeApartFromStart (.next (s.respond v)) (.next (s.forgetStart.respond v')) :=
  ⟨_, _, rfl, rfl, by rw [hv]; rfl⟩

/-- A command that writes the active slots by operations that do not read `startingAngle`. -/
theorem mapActive_agreeApartFromStart (s : State) (v : BitVec 32) {f g : AxisState → AxisState}
    (hf : ∀ x, (f x.forgetStart).forgetStart = (f x).forgetStart)
    (hg : ∀ x, (g x.forgetStart).forgetStart = (g x).forgetStart) :
    AgreeApartFromStart (.next ((s.mapActive f g).respond v)) (.next ((s.forgetStart.mapActive f g).respond v)) :=
  ⟨_, _, rfl, rfl, congrArg (State.respond · v) (forgetStart_mapActive s hf hg)⟩

/-- No command reads `startingAngle`: the accessors report other fields, and the commands that write pass it on or write
it over. -/
theorem exec_agreeApartFromStart (i : Instr) (s : State) :
    AgreeApartFromStart (exec i s) (exec i s.forgetStart) := by
  cases i with
  | nop => exact respond_agreeApartFromStart s rfl
  | init a b =>
    exact mapActive_agreeApartFromStart s _ (forgetStart_calibrate · a) (forgetStart_calibrate · b)
  | update a b =>
    have hadvance (angle : Int) (x : AxisState) :
        (x.forgetStart.advance angle).forgetStart = (x.advance angle).forgetStart := by
      rw [forgetStart_advance, forgetStart_forgetStart]
    cases hready : s.updateReady with
    | true =>
      simp only [exec, execUpdate, forgetStart_updateReady, hready, if_true]
      exact mapActive_agreeApartFromStart s _ (hadvance a) (hadvance b)
    | false =>
      simp only [exec, execUpdate, forgetStart_updateReady, hready, Bool.false_eq_true, if_false]
      exact respond_agreeApartFromStart s rfl
  | resetIndex axis a =>
    simp only [exec, execResetIndex, forgetStart_activeSlot]
    split
    · next j _ =>
      rw [forgetStart_slot, forgetStart_anchorOverride, forgetStart_setSlot]
      exact ⟨_, _, rfl, rfl, rfl⟩
    · exact respond_agreeApartFromStart s rfl
  | setCpr c => exact ⟨_, _, rfl, rfl, rfl⟩
  | setCprAxis axis c =>
    simp only [exec, execSetCprAxis]
    split
    · next j _ =>
      rw [forgetStart_slot, forgetStart_configure, forgetStart_setSlot]
      exact ⟨_, _, rfl, rfl, rfl⟩
    · exact respond_agreeApartFromStart s rfl
  | setNumAxes n => exact ⟨_, _, rfl, rfl, rfl⟩
  | getChannelA axis => exact respond_agreeApartFromStart s (forgetStart_report s axis fun _ => rfl)
  | getChannelB axis => exact respond_agreeApartFromStart s (forgetStart_report s axis fun _ => rfl)
  | getIndex axis => exact respond_agreeApartFromStart s (forgetStart_report s axis fun _ => rfl)
  | getCpr axis => exact respond_agreeApartFromStart s (forgetStart_reportStored s axis fun _ => rfl)
  | getPositionCount axis => exact respond_agreeApartFromStart s (forgetStart_report s axis fun _ => rfl)
  | isCalibrated axis => exact respond_agreeApartFromStart s (forgetStart_report s axis fun _ => rfl)
  | getFormattedOutput => exact respond_agreeApartFromStart s (forgetStart_snapshot s)

theorem step_agreeApartFromStart (s : State) : AgreeApartFromStart (step s) (step s.forgetStart) := by
  cases hedges : s.edges with
  | nil =>
    have hholds (u : State) (h : u.edges = []) : step u = .next u := by simp [step, takeEdge, h]
    exact ⟨s, s.forgetStart, hholds s hedges, hholds _ hedges, rfl⟩
  | cons e rest =>
    have hedges' : s.forgetStart.edges = e :: rest := hedges
    have hserved : State.present { s.forgetStart with edges := rest } e.presents =
        (State.present { s with edges := rest } e.presents).forgetStart :=
      forgetStart_present { s with edges := rest } e.presents
    cases hrun : e.rstN with
    | false => exact ⟨_, _, step_of_reset_edge hedges hrun, step_of_reset_edge hedges' hrun, rfl⟩
    | true =>
      cases haccepts : e.accepts with
      | true =>
        obtain ⟨i, hword, -⟩ := execWord_runs_command e.cmdWord
        rw [step_of_accepting_edge hedges hrun haccepts, step_of_accepting_edge hedges' hrun haccepts, hserved,
          hword, hword]
        exact exec_agreeApartFromStart i _
      | false =>
        rw [step_of_idle_edge hedges hrun haccepts, step_of_idle_edge hedges' hrun haccepts, hserved]
        exact ⟨_, _, rfl, rfl, rfl⟩

/-- Settles O49: both states step as the one state left when `startingAngle` is forgotten does. -/
theorem startingAngleIsNeverObserved : Obligations.StartingAngleIsNeverObserved := by
  intro s s' hforget
  refine ⟨by rw [← forgetStart_pins s, hforget, forgetStart_pins], ?_⟩
  obtain ⟨t, u, hs, hu, htu⟩ := step_agreeApartFromStart s
  obtain ⟨t', u', hs', hu', htu'⟩ := step_agreeApartFromStart s'
  rw [hforget, hu'] at hu
  cases hu
  exact ⟨t, t', hs, hs', htu.symm.trans htu'⟩

end Sys2Proof.Machine
end

section
/-! The byte-serial form of a word (20_memory.md R34). -/

namespace Sys2Proof

/-- Byte `j` of a number is its bits from `8 * j` up. -/
theorem natToBytes_eq_map (k v : Nat) :
    natToBytes k v = (List.range k).map fun j => BitVec.ofNat 8 (v >>> (8 * j)) := by
  induction k generalizing v with
  | zero => rfl
  | succ k ih =>
    have hshift (j : Nat) : (v / 256) >>> (8 * j) = v >>> (8 * (j + 1)) := by
      rw [mul_add, mul_one, add_comm, Nat.shiftRight_add, Nat.shiftRight_eq_div_pow v 8]
    rw [natToBytes, ih, List.range_succ_eq_map]
    simp [hshift]

/-- The bytes of a word of any width are its fields of eight bits, lowest first. -/
theorem natToBytes_toNat {n : Nat} (k : Nat) (w : BitVec n) :
    natToBytes k w.toNat = (List.range k).map fun j => w.extractLsb' (8 * j) 8 :=
  natToBytes_eq_map k w.toNat

@[simp] theorem length_natToBytes (k v : Nat) : (natToBytes k v).length = k := by
  simp [natToBytes_eq_map]

/-- The `k` lowest bytes of a number determine it up to a multiple of `256 ^ k`. -/
theorem bytesToNat_natToBytes (k v : Nat) : bytesToNat (natToBytes k v) = v % 256 ^ k := by
  induction k generalizing v with
  | zero => simp [natToBytes, bytesToNat, Nat.mod_one]
  | succ k ih => rw [natToBytes, bytesToNat, ih, pow_succ', Nat.mod_mul, BitVec.toNat_ofNat]

/-- A wrapper's byte string is assembled into the word it came from. -/
theorem decodeBytes_commandBytes (w : CmdWord) : decodeBytes (commandBytes w) = decode w := by
  have hlength : (commandBytes w).length = 9 := length_natToBytes 9 w.toNat
  have hnumber : bytesToNat (wrapperOrder Config.wrapperByteOrder (commandBytes w)) = w.toNat :=
    (bytesToNat_natToBytes 9 w.toNat).trans (Nat.mod_eq_of_lt w.isLt)
  rw [decodeBytes, if_pos hlength, hnumber, BitVec.ofNat_toNat, BitVec.setWidth_eq]

/-- Settles O16: each list of bytes is the word's fields of eight bits (`natToBytes_toNat`), written out. -/
theorem wrapperMovesWordsLittleEndian : Obligations.WrapperMovesWordsLittleEndian :=
  ⟨fun w => ⟨natToBytes_toNat 9 w, decodeBytes_commandBytes w⟩, fun v => natToBytes_toNat 4 v⟩

end Sys2Proof
end

section
/-! A command repeated with the same operands (20_memory.md R36; 41_sample_commands.md R74): each operation on a slot is
idempotent, and a command chooses the slots it writes from registers that the operation does not change. -/

namespace Sys2Proof.Machine

section
variable {x : AxisState} {cur : Int}

/-- A repeated sample makes no count change (41_sample_commands.md R71 steps 1 to 3). -/
theorem countChange_of_previousAngle (hangle : x.previousAngle.toInt = cur) : x.countChange cur = 0 := by
  have hdelta : normDelta (cur - x.previousAngle.toInt) = 0 := by rw [hangle, sub_self]; decide
  have hround : roundHalfAway 0 Config.full = 0 := by decide
  rw [AxisState.countChange, hdelta, deltaToCount, deltaToCountTies, zero_mul]
  exact hround

/-- A zero change keeps the count, which is below `ppr` already. -/
theorem moveCount_zero (h : x.Inv) : x.moveCount 0 = x := by
  obtain ⟨-, -, -, hlt, -⟩ := h
  have hwrap : wrapCount x.positionCount.toNat 0 x.ppr.toNat = (x.positionCount.toNat : Int) := by
    rw [wrapCount, add_zero]
    exact Int.emod_eq_of_lt (by omega) (by omega)
  rw [AxisState.moveCount, hwrap, BitVec.ofInt_natCast, BitVec.ofNat_toNat, BitVec.setWidth_eq]

theorem updateQuadratureStates_zero : x.updateQuadratureStates 0 = x := if_pos rfl

theorem setIndexFromCount_of_index (hindex : x.index = (x.positionCount == 0#16)) : x.setIndexFromCount = x := by
  rw [AxisState.setIndexFromCount, ← hindex]

theorem keepAngle_of_previousAngle (hangle : x.previousAngle.toInt = cur) : x.keepAngle cur = x := by
  rw [AxisState.keepAngle, ← hangle, BitVec.ofInt_toInt]

end

section
variable (x : AxisState) (a cur : Int)

theorem calibrate_calibrate : (x.calibrate a).calibrate a = x.calibrate a := rfl

theorem configure_configure : (x.configure a).configure a = x.configure a := rfl

/-- The override's condition reads the channels, which the override does not write. -/
theorem atAnchor_anchorOverride : (x.anchorOverride a).atAnchor cur = x.atAnchor cur := by
  simp [AxisState.atAnchor]

theorem anchorOverride_anchorOverride : (x.anchorOverride a).anchorOverride a = x.anchorOverride a := by
  cases hat : x.atAnchor a with
  | false =>
    have hsame : x.anchorOverride a = x := by simp [AxisState.anchorOverride, hat]
    rw [hsame, hsame]
  | true =>
    rw [AxisState.anchorOverride, atAnchor_anchorOverride, hat, if_pos rfl, AxisState.anchorOverride, hat, if_pos rfl]

/-- The override does not read the stored sample. -/
theorem anchorOverride_keepAngle : (x.keepAngle cur).anchorOverride a = (x.anchorOverride a).keepAngle cur := by
  have hat : (x.keepAngle cur).atAnchor a = x.atAnchor a := rfl
  rw [AxisState.anchorOverride, AxisState.anchorOverride, hat]
  split <;> rfl

/-- An UPDATE ends with the anchor override already made (41_sample_commands.md R71 step 7). -/
theorem anchorOverride_advance : (x.advance cur).anchorOverride cur = x.advance cur := by
  rw [AxisState.advance, anchorOverride_keepAngle, anchorOverride_anchorOverride]

/-- After an UPDATE the index shows exactly whether the count is 0, the override included: it sets both. -/
theorem advance_index : (x.advance cur).index = ((x.advance cur).positionCount == 0#16) := by
  simp only [AxisState.advance, keepAngle_index, keepAngle_positionCount, anchorOverride_index,
    anchorOverride_positionCount, setIndexFromCount_index, setIndexFromCount_positionCount]
  cases ((x.moveCount (x.countChange cur)).updateQuadratureStates
    (x.countChange cur)).setIndexFromCount.atAnchor cur <;> simp

end

/-- A sample that fits its field is read back as it was stored. -/
theorem toInt_previousAngle_advance (x : AxisState) {cur : Int} (hfits : fitsWord cur = true) :
    (x.advance cur).previousAngle.toInt = cur := by
  simp only [fitsWord, Bool.and_eq_true, decide_eq_true_eq] at hfits
  obtain ⟨hlow, hhigh⟩ := hfits
  rw [advance_previousAngle]
  exact BitVec.toInt_ofInt_eq_self (by omega) (by omega) (by omega)

/-- UPDATE with the sample the slot holds changes nothing where the index and the anchor override are up to date. -/
theorem advance_eq_self {x : AxisState} {cur : Int} (hinv : x.Inv) (hangle : x.previousAngle.toInt = cur)
    (hindex : x.index = (x.positionCount == 0#16)) (hanchor : x.anchorOverride cur = x) : x.advance cur = x := by
  rw [AxisState.advance, countChange_of_previousAngle hangle, moveCount_zero hinv, updateQuadratureStates_zero,
    setIndexFromCount_of_index hindex, hanchor, keepAngle_of_previousAngle hangle]

/-- A repeated UPDATE changes nothing (41_sample_commands.md R74 item 2). -/
theorem advance_advance {x : AxisState} {cur : Int} (hinv : x.Inv) (hfits : fitsWord cur = true) :
    (x.advance cur).advance cur = x.advance cur :=
  advance_eq_self (advance_inv hinv cur) (toInt_previousAngle_advance x hfits) (advance_index x cur)
    (anchorOverride_advance x cur)

/-- UPDATE writes no calibration flag, so its precondition is the same before and after it. -/
theorem updateReady_mapActive_advance (s : State) (a b : Int) (v : BitVec 32) :
    ((s.mapActive (fun x => x.advance a) (fun x => x.advance b)).respond v).updateReady = s.updateReady := by
  have hcalibrated : (s.mapActive (fun x => x.advance a) (fun x => x.advance b)).ax1.calibrated = s.ax1.calibrated := by
    rw [mapActive_ax1]
    split
    · exact advance_calibrated s.ax1 b
    · rfl
  rw [State.updateReady, respond_ax0, respond_ax1, hcalibrated, mapActive_ax0, advance_calibrated]
  rfl

/-- Which slot a selector names depends on the axis count alone. -/
theorem activeSlot_congr {s t : State} (hnum : t.numAxes = s.numAxes) (axis : Int) :
    t.activeSlot axis = s.activeSlot axis := by
  have htwo : t.twoAxes = s.twoAxes := by rw [State.twoAxes, State.twoAxes, hnum]
  have hactive (i : Slot) : t.active i = s.active i := by cases i with
    | slot0 => rfl
    | slot1 => exact htwo
  simp only [State.activeSlot, hactive]

/-- The command executed twice from `s` answers next states, the second with the architectural state of the first. -/
def RepeatsUnchanged (i : Instr) (s : State) : Prop :=
  ∃ t u, exec i s = .next t ∧ exec i t = .next u ∧ u.SameArch t

/-- A command that only responds, from both states. -/
theorem repeatsUnchanged_of_respond {i : Instr} {s : State} (response : State → BitVec 32)
    (hexec : ∀ t : State, t.SameArch s → exec i t = .next (t.respond (response t))) : RepeatsUnchanged i s :=
  ⟨_, _, hexec s ⟨rfl, rfl, rfl⟩, hexec _ ⟨rfl, rfl, rfl⟩, rfl, rfl, rfl⟩

/-- Writing the active slots a second time, each by an operation that is idempotent on it. -/
theorem mapActive_mapActive_sameArch {s : State} {f g : AxisState → AxisState} (v : BitVec 32)
    (hf : f (f s.ax0) = f s.ax0) (hg : g (g s.ax1) = g s.ax1) :
    ((((s.mapActive f g).respond v).mapActive f g).respond v).SameArch ((s.mapActive f g).respond v) := by
  refine ⟨rfl, hf, ?_⟩
  have htwo : ((s.mapActive f g).respond v).twoAxes = s.twoAxes := rfl
  simp only [respond_ax1, mapActive_ax1, htwo]
  split
  · exact hg
  · rfl

/-- A command that writes one slot, chosen by the axis count at most, by an idempotent operation. -/
theorem repeatsUnchanged_of_setSlot {i : Instr} {s : State} (j : Slot) {f : AxisState → AxisState}
    (hf : ∀ x, f (f x) = f x)
    (hexec : ∀ t : State, t.numAxes = s.numAxes →
      exec i t = .next ((t.setSlot j (f (t.slot j))).respond 0#32)) : RepeatsUnchanged i s := by
  refine ⟨_, _, hexec s rfl, hexec _ (setSlot_numAxes _ s j), ?_⟩
  cases j with
  | slot0 => exact ⟨rfl, hf s.ax0, rfl⟩
  | slot1 => exact ⟨rfl, rfl, hf s.ax1⟩

theorem update_repeatsUnchanged {s : State} {a b : Int} (ha : fitsWord a = true) (hb : fitsWord b = true)
    (hinv : s.Inv) : RepeatsUnchanged (.update a b) s := by
  obtain ⟨h0, h1, -⟩ := hinv
  have hready (t : State) (h : t.updateReady = true) : exec (.update a b) t =
      .next ((t.mapActive (fun x => x.advance a) (fun x => x.advance b)).respond 0#32) := if_pos h
  cases hs : s.updateReady with
  | true =>
    exact ⟨_, _, hready s hs, hready _ ((updateReady_mapActive_advance s a b _).trans hs),
      mapActive_mapActive_sameArch _ (advance_advance h0 ha) (advance_advance h1 hb)⟩
  | false =>
    refine repeatsUnchanged_of_respond (fun _ => 0#32) fun t ⟨hnum, hax0, hax1⟩ => ?_
    have ht : t.updateReady = false := by
      rw [← hs, State.updateReady, State.updateReady, State.twoAxes, State.twoAxes, hnum, hax0, hax1]
    simp only [exec, execUpdate, ht, Bool.false_eq_true, if_false]

theorem resetIndex_repeatsUnchanged (s : State) (axis a : Int) : RepeatsUnchanged (.resetIndex axis a) s := by
  cases hslot : s.activeSlot axis with
  | none =>
    refine repeatsUnchanged_of_respond (fun _ => 0#32) fun t ⟨hnum, _, _⟩ => ?_
    simp only [exec, execResetIndex, activeSlot_congr hnum, hslot]
  | some j =>
    refine repeatsUnchanged_of_setSlot (f := (·.anchorOverride a)) j (anchorOverride_anchorOverride · a)
      fun t hnum => ?_
    simp only [exec, execResetIndex, activeSlot_congr hnum, hslot]

theorem setCprAxis_repeatsUnchanged (s : State) (axis c : Int) : RepeatsUnchanged (.setCprAxis axis c) s := by
  cases hslot : selectSlot axis with
  | none =>
    refine repeatsUnchanged_of_respond (fun _ => 0#32) fun t _ => ?_
    simp only [exec, execSetCprAxis, hslot]
  | some j =>
    refine repeatsUnchanged_of_setSlot (f := (·.configure c)) j (configure_configure · c) fun t _ => ?_
    simp only [exec, execSetCprAxis, hslot]

/-- Settles O48: INIT, UPDATE, RESET_INDEX and the resolution commands write slots by idempotent operations, SET_NUM_AXES
writes the value it wrote, and the other commands only respond. -/
theorem repeatedCommandChangesNothing : Obligations.RepeatedCommandChangesNothing := by
  intro i s hwf hinv
  cases i with
  | init a b =>
    exact ⟨_, _, rfl, rfl,
      mapActive_mapActive_sameArch _ (calibrate_calibrate s.ax0 a) (calibrate_calibrate s.ax1 b)⟩
  | update a b =>
    obtain ⟨ha, hb⟩ : fitsWord a = true ∧ fitsWord b = true := by
      rwa [WellFormed, Instr.wellFormed, Bool.and_eq_true] at hwf
    exact update_repeatsUnchanged ha hb hinv
  | resetIndex axis a => exact resetIndex_repeatsUnchanged s axis a
  | setCpr c => exact ⟨_, _, rfl, rfl, rfl, configure_configure s.ax0 c, configure_configure s.ax1 c⟩
  | setCprAxis axis c => exact setCprAxis_repeatsUnchanged s axis c
  | setNumAxes n => exact ⟨_, _, rfl, rfl, rfl, rfl, rfl⟩
  | _ => exact repeatsUnchanged_of_respond _ fun _ _ => rfl

end Sys2Proof.Machine
end

section
/-! A run without reset is the fold of the accepted commands (20_memory.md R38): a command reads the architectural state
alone, so the run and the fold stay together whatever the ports hold. -/

namespace Sys2Proof.Machine

/-- The state with other contents of the model's own port fields. -/
def State.withPort (s : State) (edges : List ClockEdge) (pending : List (BitVec 32)) (rsp : Option (BitVec 32)) :
    State :=
  { s with edges := edges, pending := pending, rsp := rsp }

section
variable (s : State) (edges : List ClockEdge) (pending : List (BitVec 32)) (rsp : Option (BitVec 32))

/-- Two states with the same architectural state differ in the port fields alone. -/
theorem eq_withPort_of_sameArch {s t : State} (h : t.SameArch s) : t = s.withPort t.edges t.pending t.rsp := by
  obtain ⟨hnum, h0, h1⟩ := h
  rw [State.withPort, ← hnum, ← h0, ← h1]

theorem withPort_slot (j : Slot) : (s.withPort edges pending rsp).slot j = s.slot j := by cases j <;> rfl

theorem withPort_setSlot (j : Slot) (x : AxisState) :
    (s.withPort edges pending rsp).setSlot j x = (s.setSlot j x).withPort edges pending rsp := by cases j <;> rfl

theorem withPort_activeSlot (axis : Int) : (s.withPort edges pending rsp).activeSlot axis = s.activeSlot axis :=
  activeSlot_congr rfl axis

theorem withPort_report (axis : Int) (f : AxisState → BitVec 32) :
    (s.withPort edges pending rsp).report axis f = s.report axis f := by
  simp only [State.report, withPort_activeSlot, withPort_slot]

theorem withPort_reportStored (axis : Int) (f : AxisState → BitVec 32) :
    (s.withPort edges pending rsp).reportStored axis f = s.reportStored axis f := by
  simp only [State.reportStored, withPort_slot]

end

/-- From the state `s`, whatever its port fields hold, the outcome of the command is `t` with the port fields as they
were, and `v` behind the responses owed. -/
def AnswersFromAnyPort (i : Instr) (s t : State) (v : BitVec 32) : Prop :=
  ∀ edges pending rsp, exec i (s.withPort edges pending rsp) = .next (t.withPort edges (pending ++ [v]) rsp)

/-- No command reads or writes a port field, but for the one response it adds (30_encoding.md R50). -/
theorem exec_answersFromAnyPort (i : Instr) (s : State) : ∃ t v, AnswersFromAnyPort i s t v := by
  cases i with
  | nop => exact ⟨s, 0#32, fun _ _ _ => rfl⟩
  | init a b => exact ⟨s.mapActive (·.calibrate a) (·.calibrate b), 0#32, fun _ _ _ => rfl⟩
  | update a b =>
    cases hready : s.updateReady with
    | true => exact ⟨s.mapActive (·.advance a) (·.advance b), 0#32, fun _ _ _ => if_pos hready⟩
    | false => exact ⟨s, 0#32, fun _ _ _ => if_neg (Bool.eq_false_iff.mp hready)⟩
  | resetIndex axis a =>
    cases hslot : s.activeSlot axis with
    | some j =>
      refine ⟨s.setSlot j ((s.slot j).anchorOverride a), 0#32, fun edges pending rsp => ?_⟩
      simp only [exec, execResetIndex, withPort_activeSlot, hslot, withPort_slot, withPort_setSlot]
      rfl
    | none =>
      refine ⟨s, 0#32, fun edges pending rsp => ?_⟩
      simp only [exec, execResetIndex, withPort_activeSlot, hslot]
      rfl
  | setCpr c =>
    exact ⟨(s.setSlot .slot0 (s.ax0.configure c)).setSlot .slot1 (s.ax1.configure c), 0#32, fun _ _ _ => rfl⟩
  | setCprAxis axis c =>
    cases hslot : selectSlot axis with
    | some j =>
      refine ⟨s.setSlot j ((s.slot j).configure c), 0#32, fun edges pending rsp => ?_⟩
      simp only [exec, execSetCprAxis, hslot, withPort_slot, withPort_setSlot]
      rfl
    | none =>
      refine ⟨s, 0#32, fun edges pending rsp => ?_⟩
      simp only [exec, execSetCprAxis, hslot]
      rfl
  | setNumAxes n => exact ⟨{ s with numAxes := clampAxes n }, 0#32, fun _ _ _ => rfl⟩
  | getChannelA axis => exact ⟨s, _, fun _ _ _ => by rw [exec, execGetChannelA, withPort_report]; rfl⟩
  | getChannelB axis => exact ⟨s, _, fun _ _ _ => by rw [exec, execGetChannelB, withPort_report]; rfl⟩
  | getIndex axis => exact ⟨s, _, fun _ _ _ => by rw [exec, execGetIndex, withPort_report]; rfl⟩
  | getCpr axis => exact ⟨s, _, fun _ _ _ => by rw [exec, execGetCpr, withPort_reportStored]; rfl⟩
  | getPositionCount axis =>
    exact ⟨s, _, fun _ _ _ => by rw [exec, execGetPositionCount, withPort_report]; rfl⟩
  | isCalibrated axis => exact ⟨s, _, fun _ _ _ => by rw [exec, execIsCalibrated, withPort_report]; rfl⟩
  | getFormattedOutput => exact ⟨s, s.snapshot, fun _ _ _ => rfl⟩

/-- From two states with the same architectural state an accepted word leaves the same architectural state and answers
with the same response. -/
theorem execWord_of_sameArch (w : BitVec 72) {s u : State} (h : s.SameArch u) :
    ∃ s' u' v, execWord w s = .next s' ∧ execWord w u = .next u' ∧ s'.SameArch u' ∧ Answers s s' v ∧
      Answers u u' v := by
  obtain ⟨i, hword, -⟩ := execWord_runs_command w
  obtain ⟨t, v, hexec⟩ := exec_answersFromAnyPort i u
  have hs : exec i s = .next (t.withPort s.edges (s.pending ++ [v]) s.rsp) := by
    conv_lhs => rw [eq_withPort_of_sameArch h]
    exact hexec _ _ _
  exact ⟨_, _, v, (hword s).trans hs, (hword u).trans (hexec u.edges u.pending u.rsp), ⟨rfl, rfl, rfl⟩,
    ⟨rfl, rfl, rfl⟩, ⟨rfl, rfl, rfl⟩⟩

theorem run_succ_of_step {s t : State} (h : step s = .next t) (k : Nat) :
    Host.Core.run Sys2Proof.core (k + 1) s = Host.Core.run Sys2Proof.core k t := by
  have hcore : Sys2Proof.core.step s = .next t := h
  simp only [Host.Core.run, hcore]

theorem presented_succ_of_step {s t : State} (h : step s = .next t) (k : Nat) :
    presented (k + 1) s = t.rsp.toList ++ presented k t := by
  rw [presented, h]
  rfl

theorem foldCommands_cons_of_execWord {w : BitVec 72} {s t : State} (h : execWord w s = .next t)
    (ws : List (BitVec 72)) : foldCommands (w :: ws) s = foldCommands ws t := by
  rw [foldCommands, h]
  rfl

/-- The words accepted at the given edges, in order. -/
def acceptedWords (edges : List ClockEdge) : List (BitVec 72) :=
  (edges.filter ClockEdge.accepts).map ClockEdge.cmdWord

theorem acceptedWords_cons_accepting {e : ClockEdge} (h : e.accepts = true) (rest : List ClockEdge) :
    acceptedWords (e :: rest) = e.cmdWord :: acceptedWords rest := by
  simp [acceptedWords, h]

theorem acceptedWords_cons_idle {e : ClockEdge} (h : e.accepts = false) (rest : List ClockEdge) :
    acceptedWords (e :: rest) = acceptedWords rest := by
  simp [acceptedWords, h]

/-- The run from `s` over all its edges and the fold from `u` over the words accepted at them end in the same
architectural state, and add the same responses to those owed in `s` and in `u`. -/
def RunFollowsFold (s u : State) : Prop :=
  ∃ t u' responses, Host.Core.run Sys2Proof.core s.edges.length s = .next t ∧
    foldCommands (acceptedWords s.edges) u = some u' ∧ t.SameArch u' ∧
    presented s.edges.length s ++ t.pending = s.pending ++ responses ∧ u'.pending = u.pending ++ responses ∧
    t.edges = []

/-- One edge in front: the step and the fold of the word accepted there, if one is, add the same responses `new`. -/
theorem runFollowsFold_cons {s s' u u₁ : State} {e : ClockEdge} {rest : List ClockEdge} {new : List (BitVec 32)}
    (hedges : s.edges = e :: rest) (hstep : step s = .next s') (htaken : s'.edges = rest)
    (hport : s'.rsp.toList ++ s'.pending = s.pending ++ new)
    (hfolds : foldCommands (acceptedWords (e :: rest)) u = foldCommands (acceptedWords rest) u₁)
    (hqueued : u₁.pending = u.pending ++ new) (hrest : RunFollowsFold s' u₁) : RunFollowsFold s u := by
  obtain ⟨t, u', responses, hruns, hfold, hsame, hseen, howed, hused⟩ := hrest
  rw [htaken] at hruns hfold hseen
  refine ⟨t, u', new ++ responses, ?_, ?_, hsame, ?_, ?_, hused⟩
  · rw [hedges, List.length_cons, run_succ_of_step hstep, hruns]
  · rw [hedges, hfolds, hfold]
  · calc presented s.edges.length s ++ t.pending
        = s'.rsp.toList ++ (presented rest.length s' ++ t.pending) := by
          rw [hedges, List.length_cons, presented_succ_of_step hstep, List.append_assoc]
      _ = s'.rsp.toList ++ s'.pending ++ responses := by rw [hseen, List.append_assoc]
      _ = s.pending ++ (new ++ responses) := by rw [hport, List.append_assoc]
  · rw [howed, hqueued, List.append_assoc]

/-- An edge outside reset serves the response port, which leaves a state `p`, and executes in `p` the word it accepts, if
it accepts one. -/
theorem step_of_running_edge {s : State} {e : ClockEdge} {rest : List ClockEdge} (hedges : s.edges = e :: rest)
    (hrun : e.rstN = true) :
    ∃ p : State, p.SameArch s ∧ p.edges = rest ∧ p.rsp.toList ++ p.pending = s.pending ∧
      step s = if e.accepts then execWord e.cmdWord p else .next p := by
  refine ⟨_, present_sameArch s rest e.presents, present_edges _ _, present_pending _ _, ?_⟩
  cases haccepts : e.accepts with
  | true => exact step_of_accepting_edge hedges hrun haccepts
  | false => exact step_of_idle_edge hedges hrun haccepts

theorem State.SameArch.trans {s t u : State} (hst : s.SameArch t) (htu : t.SameArch u) : s.SameArch u := by
  obtain ⟨hnum, h0, h1⟩ := hst
  obtain ⟨hnum', h0', h1'⟩ := htu
  exact ⟨hnum.trans hnum', h0.trans h0', h1.trans h1'⟩

/-- The run and the fold stay together over any list of edges without reset: at an idle edge the fold stands still, and
at an accepting one both execute the word, with the same response. -/
theorem runFollowsFold (edges : List ClockEdge) (hrun : ∀ e ∈ edges, e.rstN = true) :
    ∀ s u : State, s.edges = edges → s.SameArch u → RunFollowsFold s u := by
  induction edges with
  | nil =>
    intro s u hedges hsame
    refine ⟨s, u, [], ?_, ?_, hsame, ?_, (List.append_nil _).symm, hedges⟩ <;> rw [hedges]
    · rfl
    · rfl
    · exact (List.append_nil _).symm
  | cons e rest ih =>
    intro s u hedges hsame
    obtain ⟨he, hrest⟩ := List.forall_mem_cons.mp hrun
    obtain ⟨p, hp, htaken, hport, hstep⟩ := step_of_running_edge hedges he
    cases haccepts : e.accepts with
    | false =>
      rw [haccepts, if_neg Bool.false_ne_true] at hstep
      exact runFollowsFold_cons hedges hstep htaken (hport.trans (List.append_nil _).symm)
        (by rw [acceptedWords_cons_idle haccepts]) (List.append_nil _).symm
        (ih hrest p u htaken (hp.trans hsame))
    | true =>
      obtain ⟨s', u₁, v, hs', hu₁, hsame₁, ⟨hpending, hedges', hrsp⟩, ⟨hqueued, -, -⟩⟩ :=
        execWord_of_sameArch e.cmdWord (hp.trans hsame)
      rw [haccepts, if_pos rfl, hs'] at hstep
      exact runFollowsFold_cons hedges hstep (hedges'.trans htaken)
        (by rw [hrsp, hpending, ← hport, List.append_assoc])
        (by rw [acceptedWords_cons_accepting haccepts, foldCommands_cons_of_execWord hu₁]) hqueued
        (ih hrest s' u₁ (hedges'.trans htaken) hsame₁)

/-- Settles O5: the run and the fold that start in one state (`runFollowsFold`). -/
theorem runIsFoldOfAcceptedCommands : Obligations.RunIsFoldOfAcceptedCommands := by
  intro s hrun
  obtain ⟨t, u, responses, hruns, hfold, hsame, hseen, howed, hused⟩ :=
    runFollowsFold s.edges hrun s s rfl ⟨rfl, rfl, rfl⟩
  exact ⟨t, u, hruns, hfold, hsame, hseen.trans howed.symm, hused⟩

end Sys2Proof.Machine
end

section
/-! The command word (30_encoding.md R46 to R53): the fields of a packed word, the opcode table read both ways, and which
operand fields a command keeps. -/

namespace Sys2Proof

@[simp] theorem arg0Field_packWord (op : BitVec 8) (arg0 arg1 : Word) : arg0Field (packWord op arg0 arg1) = arg0 := by
  rw [arg0Field, packWord, BitVec.extractLsb'_append_eq_of_le (le_refl 8)]
  exact BitVec.extractLsb'_append_eq_right

@[simp] theorem arg1Field_packWord (op : BitVec 8) (arg0 arg1 : Word) : arg1Field (packWord op arg0 arg1) = arg1 := by
  rw [arg1Field, packWord, BitVec.extractLsb'_append_eq_of_le (by decide : 8 ≤ 40)]
  exact BitVec.extractLsb'_append_eq_left

theorem fitsWord_iff (v : Int) : fitsWord v = true ↔ -2147483648 ≤ v ∧ v ≤ 2147483647 := by
  simp [fitsWord]

/-- A field read as an integer is in the range of 30_encoding.md R48. -/
theorem fitsWord_sext32 (v : Word) : fitsWord (sext32 v) = true :=
  (fitsWord_iff _).mpr ⟨BitVec.le_toInt v, Int.lt_add_one_iff.mp BitVec.toInt_lt⟩

/-- An operand that fits its field is read back from it. -/
theorem sext32_operandField {v : Int} (hfits : fitsWord v = true) : sext32 (operandField v) = v := by
  obtain ⟨hlow, hhigh⟩ := (fitsWord_iff v).mp hfits
  exact BitVec.toInt_ofInt_eq_self (by decide) hlow (Int.lt_add_one_iff.mpr hhigh)

@[simp] theorem operandField_sext32 (v : Word) : operandField (sext32 v) = v := BitVec.ofInt_toInt

/-- The opcode table read from the opcode to the command is the table read the other way (30_encoding.md R51). -/
theorem ofOpcode_eq_some_iff {op : BitVec 8} {m : Mnemonic} : Mnemonic.ofOpcode op = some m ↔ m.opcode = op := by
  constructor
  · unfold Mnemonic.ofOpcode
    split <;> rintro ⟨⟩ <;> exact BitVec.eq_of_toNat_eq (Eq.symm ‹_›)
  · rintro rfl
    exact Laws.OpcodeFirst.ofOpcode_opcode m

/-- A word with a table opcode decodes to that row's command of its two operand fields. -/
theorem decode_of_opcode {w : CmdWord} {m : Mnemonic} (hop : m.opcode = opField w) :
    decode w = .ok (Instr.ofFields m (sext32 (arg0Field w)) (sext32 (arg1Field w))) := by
  simp only [decode, ofOpcode_eq_some_iff.mpr hop]

/-- A word with an opcode outside the table is rejected by that opcode (30_encoding.md R52). -/
theorem decode_of_reserved {w : CmdWord} (hop : ∀ m : Mnemonic, m.opcode ≠ opField w) :
    decode w = .error (.reservedOpcode (opField w)) := by
  have hnone : Mnemonic.ofOpcode (opField w) = none :=
    Option.eq_none_iff_forall_ne_some.mpr fun m hm => hop m (ofOpcode_eq_some_iff.mp hm)
  simp only [decode, hnone]

/-- The decoder answers a command for table opcodes only, and always that row's. -/
theorem decode_eq_ok_iff {w : CmdWord} {i : Instr} : decode w = .ok i ↔
    ∃ m : Mnemonic, m.opcode = opField w ∧ i = Instr.ofFields m (sext32 (arg0Field w)) (sext32 (arg1Field w)) := by
  constructor
  · intro hdecode
    by_cases hop : ∃ m : Mnemonic, m.opcode = opField w
    · obtain ⟨m, hm⟩ := hop
      rw [decode_of_opcode hm] at hdecode
      cases hdecode
      exact ⟨m, hm, rfl⟩
    · rw [decode_of_reserved (not_exists.mp hop)] at hdecode
      cases hdecode
  · rintro ⟨m, hm, rfl⟩
    exact decode_of_opcode hm

/-- `Laws.FieldsRebuild`, for all commands at once. -/
theorem ofFields_mnemonic_args (i : Instr) : Instr.ofFields i.mnemonic i.arg0 i.arg1 = i := by
  cases i <;> rfl

section
variable (m : Mnemonic) (a b : Int)

@[simp] theorem mnemonic_ofFields : (Instr.ofFields m a b).mnemonic = m := by cases m <;> rfl

/-- `arg0` is kept by the formats with an operand (30_encoding.md R51, R53). -/
theorem arg0_ofFields : (Instr.ofFields m a b).arg0 = if 1 ≤ m.format.operands.length then a else 0 := by
  cases m <;> rfl

/-- `arg1` is kept by the formats with two operands (30_encoding.md R51, R53). -/
theorem arg1_ofFields : (Instr.ofFields m a b).arg1 = if m.format.operands.length = 2 then b else 0 := by
  cases m <;> rfl

end

/-- A command is well formed when its two operands fit, one that it does not carry being 0. -/
theorem wellFormed_iff (i : Instr) : WellFormed i ↔ fitsWord i.arg0 = true ∧ fitsWord i.arg1 = true := by
  have hzero : fitsWord 0 = true := rfl
  cases i <;> simp [WellFormed, Instr.wellFormed, Instr.arg0, Instr.arg1, hzero]

/-- Operands that fit make a well-formed command, whatever its name. -/
theorem wellFormed_ofFields (m : Mnemonic) {a b : Int} (ha : fitsWord a = true) (hb : fitsWord b = true) :
    WellFormed (Instr.ofFields m a b) := by
  rw [wellFormed_iff, arg0_ofFields, arg1_ofFields]
  constructor <;> split
  · exact ha
  · rfl
  · exact hb
  · rfl

/-- The word of the command that a row makes of two fields: the fields that its format keeps, and the opcode. -/
theorem encode_ofFields (m : Mnemonic) (arg0 arg1 : Word) :
    encode (Instr.ofFields m (sext32 arg0) (sext32 arg1)) =
      packWord m.opcode (if 1 ≤ m.format.operands.length then arg0 else 0#32)
        (if m.format.operands.length = 2 then arg1 else 0#32) := by
  have hzero : operandField 0 = 0#32 := rfl
  rw [encode, mnemonic_ofFields, arg0_ofFields, arg1_ofFields, apply_ite operandField, apply_ite operandField,
    operandField_sext32, operandField_sext32, hzero]

/-- Settles O11: the opcode selects the command's own row, and each operand is read back from its field. -/
theorem decodeOfEncodeIsIdentity : Obligations.DecodeOfEncodeIsIdentity := by
  intro i hwf
  obtain ⟨h0, h1⟩ := (wellFormed_iff i).mp hwf
  obtain ⟨hop, -⟩ := Laws.OpcodeFirst.of_any i
  rw [decode_of_opcode hop.symm, encode, arg0Field_packWord, arg1Field_packWord, sext32_operandField h0,
    sext32_operandField h1, ofFields_mnemonic_args]

/-- Settles O12: a decoded command is a row's command of the word's fields, which fit, and its encoding keeps the fields
of the row's format (`encode_ofFields`). -/
theorem encodeOfDecodeZeroesIgnoredFields : Obligations.EncodeOfDecodeZeroesIgnoredFields := by
  intro w i hdecode
  obtain ⟨m, hop, rfl⟩ := decode_eq_ok_iff.mp hdecode
  refine ⟨wellFormed_ofFields m (fitsWord_sext32 _) (fitsWord_sext32 _), ?_⟩
  rw [encode_ofFields, mnemonic_ofFields, hop]
  rfl

end Sys2Proof

namespace Sys2Proof.Machine

/-- Every row of the opcode table selects its command (30_encoding.md R51). -/
theorem opcodeSelects (m : Mnemonic) : OpcodeSelects m.opcode (Instr.ofFields m) :=
  fun _ hop => decode_of_opcode hop.symm

/-- Settles O13: one row for each of the fourteen opcodes. -/
theorem opcodeTableSelectsEachCommand : Obligations.OpcodeTableSelectsEachCommand :=
  ⟨opcodeSelects .nop, opcodeSelects .init, opcodeSelects .update, opcodeSelects .resetIndex, opcodeSelects .setCpr,
    opcodeSelects .setCprAxis, opcodeSelects .setNumAxes, opcodeSelects .getChannelA, opcodeSelects .getChannelB,
    opcodeSelects .getIndex, opcodeSelects .getCpr, opcodeSelects .getPositionCount, opcodeSelects .isCalibrated,
    opcodeSelects .getFormattedOutput⟩

/-- No opcode of the table is in the reserved ranges of 30_encoding.md R52. -/
theorem opcode_not_reserved (m : Mnemonic) : ¬((7 ≤ m.opcode.toNat ∧ m.opcode.toNat ≤ 15) ∨ m.opcode.toNat = 22 ∨
    m.opcode.toNat = 23 ∨ 25 ≤ m.opcode.toNat) := by
  cases m <;> decide

/-- A word that is no command is executed as NOP (30_encoding.md R52). -/
theorem execWord_of_error {w : BitVec 72} {r : DecodeError} (hdecode : decode w = .error r) (s : State) :
    execWord w s = exec .nop s := by
  simp only [execWord, hdecode]
  rfl

/-- Settles O14: a reserved opcode is in no row of the table, so the decoder rejects it and NOP is executed. -/
theorem reservedOpcodeActsAsNop : Obligations.ReservedOpcodeActsAsNop := by
  intro w s hreserved
  have hdecode : decode w = .error (.reservedOpcode (opField w)) := by
    refine decode_of_reserved fun m hm => opcode_not_reserved m ?_
    rw [hm]
    exact hreserved
  exact ⟨hdecode, execWord_of_error hdecode s, execWord_of_error hdecode s⟩

end Sys2Proof.Machine
end

section
/-! What the command port does at one edge (30_encoding.md R45, R50): the response each command adds, and the response
port's service before it. -/

namespace Sys2Proof.Machine

/-- Answering with `v` from a state whose port fields are those of `s`. -/
theorem answers_respond {s u : State} (hpending : u.pending = s.pending) (hedges : u.edges = s.edges)
    (hrsp : u.rsp = s.rsp) (v : BitVec 32) : Answers s (u.respond v) v :=
  ⟨by rw [respond_pending, hpending], hedges, hrsp⟩

theorem answers_setSlot_respond (s : State) (j : Slot) (x : AxisState) (v : BitVec 32) :
    Answers s ((s.setSlot j x).respond v) v :=
  answers_respond (setSlot_pending ..) (setSlot_edges ..) (setSlot_rsp ..) v

/-- Settles O4: the write commands and NOP answer with 0 in each of their branches, and an accessor is none of them. -/
theorem everyCommandAnswersOnce : Obligations.EveryCommandAnswersOnce := by
  intro i s
  cases i with
  | update a b =>
    simp only [exec, execUpdate]
    split <;> exact ⟨_, _, rfl, answers_respond rfl rfl rfl _, fun _ => rfl⟩
  | resetIndex axis a =>
    simp only [exec, execResetIndex]
    split
    · exact ⟨_, _, rfl, answers_setSlot_respond .., fun _ => rfl⟩
    · exact ⟨_, _, rfl, answers_respond rfl rfl rfl _, fun _ => rfl⟩
  | setCprAxis axis c =>
    simp only [exec, execSetCprAxis]
    split
    · exact ⟨_, _, rfl, answers_setSlot_respond .., fun _ => rfl⟩
    · exact ⟨_, _, rfl, answers_respond rfl rfl rfl _, fun _ => rfl⟩
  | nop | init | setCpr | setNumAxes => exact ⟨_, _, rfl, answers_respond rfl rfl rfl _, fun _ => rfl⟩
  | _ => exact ⟨_, _, rfl, answers_respond rfl rfl rfl _, nofun⟩

/-- An accepted word is answered once (30_encoding.md R50, R52). -/
theorem execWord_answers (w : BitVec 72) (s : State) : ∃ t v, execWord w s = .next t ∧ Answers s t v := by
  obtain ⟨i, hword, -⟩ := execWord_runs_command w
  obtain ⟨t, v, hexec, hanswers, -⟩ := everyCommandAnswersOnce i s
  exact ⟨t, v, (hword s).trans hexec, hanswers⟩

theorem execWord_of_ok {w : BitVec 72} {i : Instr} (hdecode : decode w = .ok i) (s : State) :
    execWord w s = exec i s := by
  simp only [execWord, hdecode]

/-- Acceptance is the handshake outside reset (30_encoding.md R45). -/
theorem accepts_eq_true_iff {e : ClockEdge} (hrun : e.rstN = true) :
    e.accepts = true ↔ e.cmdValid = true ∧ e.cmdReady = true := by
  simp [ClockEdge.accepts, hrun]

theorem accepts_eq_false_iff {e : ClockEdge} (hrun : e.rstN = true) :
    e.accepts = false ↔ ¬(e.cmdValid = true ∧ e.cmdReady = true) := by
  rw [← accepts_eq_true_iff hrun, Bool.not_eq_true]

/-- A presented response is the oldest one owed. -/
theorem present_of_owed {s : State} {v : BitVec 32} {owed : List (BitVec 32)} (howed : s.pending = v :: owed) :
    s.present true = { s with rsp := some v, pending := owed } := by
  simp only [State.present, howed]

/-- Nothing is presented where the implementation does not present, or owes nothing. -/
theorem present_of_none_owed {s : State} {b : Bool} (hnone : b = false ∨ s.pending = []) :
    s.present b = { s with rsp := none } := by
  rcases present_cases s b with ⟨hb, v, owed, howed, -⟩ | ⟨-, hserved⟩
  · simp [hb, howed] at hnone
  · exact hserved

/-- An edge outside reset serves the response port, and then one response is added if it accepts a command, and none
if it does not. -/
theorem step_of_running_edge_answers {s : State} {e : ClockEdge} {rest : List ClockEdge} (hedges : s.edges = e :: rest)
    (hrun : e.rstN = true) :
    ∃ (t : State) (new : List (BitVec 32)), step s = .next t ∧ new.length = (if e.accepts then 1 else 0) ∧
      t.rsp = (State.present { s with edges := rest } e.presents).rsp ∧
      t.pending = (State.present { s with edges := rest } e.presents).pending ++ new := by
  cases haccepts : e.accepts with
  | false => exact ⟨_, [], step_of_idle_edge hedges hrun haccepts, rfl, rfl, (List.append_nil _).symm⟩
  | true =>
    obtain ⟨t, v, hword, hpending, -, hrsp⟩ :=
      execWord_answers e.cmdWord (State.present { s with edges := rest } e.presents)
    exact ⟨t, [v], (step_of_accepting_edge hedges hrun haccepts).trans hword, rfl, hrsp, hpending⟩

/-- Settles O52: the port is served as `State.present` says, before the response of the accepted command is added. -/
theorem responsePortShowsOldestOwed : Obligations.ResponsePortShowsOldestOwed := by
  intro s e rest hedges hrun
  obtain ⟨t, new, hstep, hlength, hrsp, hpending⟩ := step_of_running_edge_answers hedges hrun
  refine ⟨t, new, hstep, ?_, fun v owed hpresents howed => ?_, fun hnone => ?_⟩
  · simp only [hlength, accepts_eq_true_iff hrun]
  · rw [hrsp, hpending, hpresents, present_of_owed (s := { s with edges := rest }) howed]
    exact ⟨rfl, rfl⟩
  · rw [hrsp, hpending, present_of_none_owed (s := { s with edges := rest }) hnone]
    exact ⟨rfl, rfl⟩

/-- Settles O2: one step lemma for each kind of edge; an idle edge and a reset edge do not read the command word. -/
theorem commandsAreTakenOnlyByHandshake : Obligations.CommandsAreTakenOnlyByHandshake := by
  intro s e rest hedges
  refine ⟨fun hreset => ?_, fun ⟨hrun, hhandshake⟩ => ?_, fun ⟨hrun, hidle⟩ => ?_, fun hreset w v => ?_⟩
  · rw [ClockEdge.cmdReady, hreset, Bool.false_and]
  · obtain ⟨t, v, hword, hpending, hused, -⟩ :=
      execWord_answers e.cmdWord (State.present { s with edges := rest } e.presents)
    have hstep := step_of_accepting_edge hedges hrun ((accepts_eq_true_iff hrun).mpr hhandshake)
    exact ⟨t, v, hstep.trans hword, hword, hused.trans (present_edges _ _), hpending⟩
  · have haccepts := (accepts_eq_false_iff hrun).mpr hidle
    exact ⟨_, step_of_idle_edge hedges hrun haccepts, present_sameArch s rest _, present_edges _ _, present_pending _ _,
      fun w => step_of_idle_edge (e := { e with cmdWord := w }) rfl hrun haccepts⟩
  · rw [step_of_reset_edge hedges hreset]
    exact step_of_reset_edge (e := { e with cmdWord := w, cmdValid := v }) rfl hreset

/-- An edge that accepts a word which decodes to a command runs it, after the port is served. -/
theorem step_of_accepted_command {s : State} {e : ClockEdge} {rest : List ClockEdge} {i : Instr}
    (hedges : s.edges = e :: rest) (hrun : e.rstN = true) (haccepts : e.accepts = true)
    (hdecode : decode e.cmdWord = .ok i) : step s = exec i (State.present { s with edges := rest } e.presents) := by
  rw [step_of_accepting_edge hedges hrun haccepts, execWord_of_ok hdecode]

theorem decodeTableWord_eq_some_iff {nbits w : Nat} {i : Instr} :
    decodeTableWord nbits w = some i ↔ decode (tableWord nbits w) = .ok i := by
  rw [decodeTableWord]
  cases decode (tableWord nbits w) <;> simp

/-- Settles O1: the second clause is the first at the edge `acceptEdge`, which presents nothing. -/
theorem stepRunsDecodedCommand : Obligations.StepRunsDecodedCommand := by
  refine ⟨fun s e rest i hedges hrun hvalid hcan hdecode => ?_, fun s nbits w i hdecode => ?_⟩
  · have hready : e.cmdReady = true := by rw [ClockEdge.cmdReady, hrun, hcan, Bool.true_and]
    exact step_of_accepted_command hedges hrun ((accepts_eq_true_iff hrun).mpr ⟨hvalid, hready⟩) hdecode
  · exact step_of_accepted_command (offer_edges s (tableWord nbits w)) rfl rfl (decodeTableWord_eq_some_iff.mp hdecode)

end Sys2Proof.Machine
end

section
/-! SET_CPR as two SET_CPR_AXIS commands (30_encoding.md R57). -/

namespace Sys2Proof.Machine

section
variable (c : Int) (s : State)

theorem exec_setCprAxis_zero :
    exec (.setCprAxis 0 c) s = .next ((s.setSlot .slot0 (s.ax0.configure c)).respond 0#32) := rfl

theorem exec_setCprAxis_one :
    exec (.setCprAxis 1 c) s = .next ((s.setSlot .slot1 (s.ax1.configure c)).respond 0#32) := rfl

end

/-- Settles O39: either way each slot is configured once, from its own record. -/
theorem setCprEqualsTwoAxisCommands : Obligations.SetCprEqualsTwoAxisCommands :=
  fun c s => ⟨_, _, _, rfl, exec_setCprAxis_zero c s, exec_setCprAxis_one c _, rfl, rfl, rfl⟩

end Sys2Proof.Machine
end

section
/-! The assembler (30_encoding.md R55, R56): every literal it accepts fits its field, so every command it makes of them is
well formed; and the example lines of §5. -/

namespace Sys2Proof.Machine

/-- A literal out of its field's range is an error (30_encoding.md R56). -/
theorem fitsWord_of_readOperand {kind : OperandKind} {text : List Char} {v : Int}
    (h : readOperand kind text = .ok v) : fitsWord v = true := by
  simp only [readOperand] at h
  split at h
  · cases h
  · split at h
    · next hfits => cases h; exact hfits
    · cases h

/-- Every operand of a line fits its field. -/
theorem fitsWord_of_readOperands {kinds : List OperandKind} {texts : List (List Char)} {vs : List Int}
    (h : readOperands kinds texts = .ok vs) : ∀ v ∈ vs, fitsWord v = true := by
  induction kinds, texts using readOperands.induct generalizing vs with
  | case1 => cases h; nofun
  | case2 kind kinds text texts e hv => simp only [readOperands, hv] at h; cases h
  | case3 kind kinds text texts v hv e hvs ih => simp only [readOperands, hv, hvs] at h; cases h
  | case4 kind kinds text texts v hv vs' hvs ih =>
    simp only [readOperands, hv, hvs] at h
    cases h
    exact List.forall_mem_cons.mpr ⟨fitsWord_of_readOperand hv, ih hvs⟩
  | case5 kinds texts hnil hcons =>
    rw [readOperands] at h
    · cases h
    · exact hnil
    · exact hcons

/-- An operand read by its place, 0 where the line has none. -/
theorem fitsWord_getD {vs : List Int} (h : ∀ v ∈ vs, fitsWord v = true) (k : Nat) : fitsWord (vs.getD k 0) = true := by
  rw [List.getD_eq_getElem?_getD]
  cases hget : vs[k]? with
  | none => rfl
  | some v => exact h v (List.mem_of_getElem? hget)

/-- A line that assembles names a row of the opcode table and gives its operands. -/
theorem exists_operands_of_assembleChars {line : List Char} {i : Instr} (h : assembleChars line = .ok (some i)) :
    ∃ (m : Mnemonic) (texts : List (List Char)) (vs : List Int), readOperands m.format.operands texts = .ok vs ∧
      i = Instr.ofFields m (vs.getD 0 0) (vs.getD 1 0) := by
  simp only [assembleChars] at h
  split at h
  · cases h
  · split at h
    · cases h
    · next m _ =>
      split at h
      · cases h
      · next vs hread => cases h; exact ⟨m, _, vs, hread, rfl⟩

/-- Settles O50: the operands of a line fit their fields, and a row's command of fitting operands is well formed. -/
theorem assembledCommandsAreWellFormed : Obligations.AssembledCommandsAreWellFormed := by
  intro line i hline
  obtain ⟨m, texts, vs, hread, rfl⟩ := exists_operands_of_assembleChars hline
  have hfits := fitsWord_of_readOperands hread
  exact wellFormed_ofFields m (fitsWord_getD hfits 0) (fitsWord_getD hfits 1)

/-- The word of a line is its command's. -/
theorem assembleWord_of_assemble {line : String} {i : Instr} (h : assemble line = .ok (some i)) :
    assembleWord line = some (encode i) := by
  rw [assembleWord, h]

/-- Settles O51: each line is read as its command, whose word is the one of its row. -/
theorem specLinesAssemble : Obligations.SpecLinesAssemble := by
  refine ⟨(assembleWord_of_assemble (i := .init 45000000 225000000) rfl).trans ?_,
    (assembleWord_of_assemble (i := .update (-500) 0) rfl).trans ?_,
    (assembleWord_of_assemble (i := .resetIndex 1 359999500) rfl).trans ?_,
    (assembleWord_of_assemble (i := .setNumAxes (-7)) rfl).trans ?_⟩ <;> decide

end Sys2Proof.Machine
end

section
/-! The two roundings (40_axis_functions.md R59) and the count change made of them (R61, R62): an integer is the nearest
one exactly when it satisfies `NearestTiesAway`, so later proofs reason from that and not from the formula. -/

namespace Sys2Proof.Machine

theorem magnitude_eq_abs (v : Int) : magnitude v = |v| := by
  unfold magnitude
  split
  · next hneg => exact (abs_of_neg hneg).symm
  · next hnonneg => exact (abs_of_nonneg (not_lt.mp hnonneg)).symm

/-- The formula of R59, with the library's absolute value. -/
theorem roundHalfAway_eq (n d : Int) :
    roundHalfAway n d = (if n < 0 then -1 else 1) * ((2 * |n| + d) / (2 * d)) := by
  rw [roundHalfAway, sign, magnitude_eq_abs]

section
variable {n d q q' : Int}

/-- Rounding with ties away from zero is symmetric about zero. -/
theorem NearestTiesAway.neg (h : NearestTiesAway n d q) : NearestTiesAway (-n) d (-q) := by
  have hdist : |-n - -q * d| = |n - q * d| := by rw [neg_mul, neg_sub_neg, abs_sub_comm]
  unfold NearestTiesAway
  rwa [hdist, neg_mul, abs_neg, abs_neg]

/-- For `n ≥ 0` the quotient is the one `q` with `q·d - d/2 ≤ n < q·d + d/2`: a tie is the lower end, so it goes up. -/
theorem nearestTiesAway_of_nonneg (hd : 0 < d) (hn : 0 ≤ n) : NearestTiesAway n d ((2 * n + d) / (2 * d)) := by
  have hlower := Int.ediv_mul_le (2 * n + d) (b := 2 * d) (by omega)
  have hupper := Int.lt_ediv_add_one_mul_self (2 * n + d) (b := 2 * d) (by omega)
  generalize (2 * n + d) / (2 * d) = q at hlower hupper
  rw [mul_left_comm] at hlower
  rw [add_one_mul, mul_left_comm] at hupper
  simp only [NearestTiesAway, Int.abs_eq_natAbs]
  omega

theorem roundHalfAway_nearest (n : Int) (hd : 0 < d) : NearestTiesAway n d (roundHalfAway n d) := by
  rw [roundHalfAway_eq]
  split
  · next hneg =>
    have hpos := (nearestTiesAway_of_nonneg hd (n := -n) (by omega)).neg
    rwa [neg_neg, ← abs_of_neg hneg, ← neg_one_mul] at hpos
  · next hnonneg =>
    rw [one_mul, abs_of_nonneg (not_lt.mp hnonneg)]
    exact nearestTiesAway_of_nonneg hd (not_lt.mp hnonneg)

/-- Two different integers within half of `n / d` are neighbours, and `n / d` is halfway between them. -/
theorem tie_of_two_nearest (hd : 0 < d) (hq : 2 * |n - q * d| ≤ d) (hq' : 2 * |n - q' * d| ≤ d) (hlt : q < q') :
    (q + 1) * d = q' * d ∧ 2 * (n - q * d) = d := by
  have hgap : (q + 1) * d ≤ q' * d := mul_le_mul_of_nonneg_right hlt hd.le
  rw [Int.abs_eq_natAbs] at hq hq'
  rw [add_one_mul] at hgap ⊢
  omega

/-- Of the two neighbours of a tie only one is farther from zero. -/
theorem not_lt_of_nearestTiesAway (hd : 0 < d) (h : NearestTiesAway n d q) (h' : NearestTiesAway n d q') : ¬ q < q' := by
  intro hlt
  obtain ⟨hnear, htie⟩ := h
  obtain ⟨hnear', htie'⟩ := h'
  obtain ⟨hnext, hhalf⟩ := tie_of_two_nearest hd hnear hnear' hlt
  rw [add_one_mul] at hnext
  simp only [Int.abs_eq_natAbs] at htie htie'
  have hsign : 0 ≤ q * d ∨ q' * d ≤ 0 := by
    rcases le_or_gt 0 q with hq | hq
    · exact .inl (mul_nonneg hq hd.le)
    · have := Int.mul_le_mul_of_nonneg_right (show q + 1 ≤ 0 by omega) hd.le
      rw [add_one_mul, zero_mul] at this
      exact .inr (by omega)
  omega

/-- The nearest integer is unique once the tie rule is fixed. -/
theorem NearestTiesAway.unique (hd : 0 < d) (h : NearestTiesAway n d q) (h' : NearestTiesAway n d q') : q = q' :=
  le_antisymm (not_lt.mp (not_lt_of_nearestTiesAway hd h' h)) (not_lt.mp (not_lt_of_nearestTiesAway hd h h'))

/-- The remainder `r` of the division decides: past the half it rounds up, before it down, and at the half to the
even one of the two neighbours. -/
theorem roundHalfEven_nearest (n : Int) (hd : 0 < d) :
    2 * |n - roundHalfEven n d * d| ≤ d ∧ (2 * |n - roundHalfEven n d * d| = d → roundHalfEven n d % 2 = 0) := by
  have hlower := Int.ediv_mul_le n hd.ne'
  have hupper := Int.lt_ediv_add_one_mul_self n hd
  simp only [roundHalfEven]
  generalize n / d = q at hlower hupper
  rw [add_one_mul] at hupper
  rw [Int.abs_eq_natAbs]
  split
  · rw [add_one_mul]
    omega
  · split
    · omega
    · rcases Int.emod_two_eq_zero_or_one q with heven | hodd
      · rw [heven, add_zero]
        omega
      · rw [hodd, add_one_mul]
        omega

/-- The two roundings are both within half, so where they differ there is a tie. -/
theorem tie_of_roundings_ne (hd : 0 < d) (hne : roundHalfAway n d ≠ roundHalfEven n d) :
    2 * |n - roundHalfAway n d * d| = d := by
  obtain ⟨haway, -⟩ := roundHalfAway_nearest n hd
  obtain ⟨heven, -⟩ := roundHalfEven_nearest n hd
  rw [Int.abs_eq_natAbs]
  rcases lt_or_gt_of_ne hne with hlt | hgt
  · obtain ⟨-, hhalf⟩ := tie_of_two_nearest hd haway heven hlt
    omega
  · obtain ⟨hnext, hhalf⟩ := tie_of_two_nearest hd heven haway hgt
    rw [add_one_mul] at hnext
    omega

end

/-- Settles O18: each rounding is a nearest integer, and two different nearest integers are the two sides of a tie. -/
theorem roundingGivesNearestInteger : Obligations.RoundingGivesNearestInteger := by
  intro n d hd
  obtain ⟨hnear, heven⟩ := roundHalfEven_nearest n hd
  exact ⟨roundHalfAway_nearest n hd, roundHalfAway_eq n d, hnear, heven, tie_of_roundings_ne hd⟩

/-- Settles O20: with `ROUND_TIES` = AWAY the count change is `roundHalfAway` of the delta's share. -/
theorem deltaToCountRoundsExactly : Obligations.DeltaToCountRoundsExactly :=
  fun d ppr => roundHalfAway_nearest (d * ppr) (d := Config.full) (by decide)

/-- R61 as an equivalence: the count change is the one nearest integer. -/
theorem deltaToCount_eq_iff {d ppr k : Int} : deltaToCount d ppr = k ↔ NearestTiesAway (d * ppr) 360000000 k := by
  constructor
  · rintro rfl
    exact deltaToCountRoundsExactly d ppr
  · exact (deltaToCountRoundsExactly d ppr).unique (by decide)

/-- Half a revolution is `2·cpr` counts, so a normalised delta's exact share of `4·cpr` lies in that half-open range. -/
theorem share_bounds {cpr d : Int} (hcpr : 1 ≤ cpr) (hlower : -180000000 < d) (hupper : d ≤ 180000000) :
    -(360000000 * (2 * cpr)) < d * (4 * cpr) ∧ d * (4 * cpr) ≤ 360000000 * (2 * cpr) := by
  have hlow := mul_lt_mul_of_pos_right hlower (show 0 < 4 * cpr by omega)
  have hhigh := mul_le_mul_of_nonneg_right hupper (show 0 ≤ 4 * cpr by omega)
  omega

/-- Settles O21: the upper end is a share without a remainder; the lower end, which no share reaches, is the nearest
integer from half a count above it, where the tie goes down. -/
theorem countChangeIsAtMostHalfARevolution : Obligations.CountChangeIsAtMostHalfARevolution := by
  intro cpr d hcpr hlower hupper
  obtain ⟨hlow, hhigh⟩ := share_bounds hcpr hlower hupper
  refine ⟨?_, fun hhalf => deltaToCount_eq_iff.mpr ?_, deltaToCount_eq_iff.trans ?_⟩
  · obtain ⟨hnear, -⟩ := deltaToCountRoundsExactly d (4 * cpr)
    rw [Int.abs_eq_natAbs] at hnear ⊢
    omega
  · simp only [hhalf, NearestTiesAway, Int.abs_eq_natAbs]
    omega
  · simp only [NearestTiesAway, Int.abs_eq_natAbs]
    omega

end Sys2Proof.Machine
end

section
/-! The shorter arc of an angle delta (40_axis_functions.md R60). -/

namespace Sys2Proof.Machine

/-- The closed form is in the half-open range and differs from the delta by whole revolutions. -/
theorem normDelta_spec (d : Int) :
    -180000000 < normDelta d ∧ normDelta d ≤ 180000000 ∧ (360000000 : Int) ∣ d - normDelta d := by
  have hclosed : normDelta d = d - 360000000 * -(-(d - 180000000) / 360000000) := rfl
  omega

/-- Only one value of the half-open range differs from the delta by whole revolutions. -/
theorem normDelta_eq_of_dvd {d v : Int} (hlower : -180000000 < v) (hupper : v ≤ 180000000)
    (hdvd : (360000000 : Int) ∣ d - v) : normDelta d = v := by
  have hspec := normDelta_spec d
  omega

/-- Deltas that differ by whole revolutions have the same shorter arc. -/
theorem normDelta_congr {d e : Int} (hdvd : (360000000 : Int) ∣ d - e) : normDelta d = normDelta e := by
  obtain ⟨hlower, hupper, hspec⟩ := normDelta_spec e
  exact normDelta_eq_of_dvd hlower hupper (by omega)

/-- Each turn of the loop takes one revolution off, so `fuel` turns bring a delta that is at most that many
revolutions outside the range into it. -/
theorem normDeltaLoop_eq {fuel : Nat} {d : Int} (hlower : -180000000 - 360000000 * (fuel : Int) < d)
    (hupper : d ≤ 180000000 + 360000000 * (fuel : Int)) : normDeltaLoop fuel d = normDelta d := by
  have hhalf : Config.half = 180000000 := rfl
  have hfull : Config.full = 360000000 := rfl
  induction fuel generalizing d with
  | zero =>
    rw [normDeltaLoop]
    exact (normDelta_eq_of_dvd (by omega) (by omega) (by simp)).symm
  | succ fuel ih =>
    rw [normDeltaLoop, hhalf, hfull]
    split
    · rw [ih (by omega) (by omega)]
      exact normDelta_congr (by omega)
    · split
      · rw [ih (by omega) (by omega)]
        exact normDelta_congr (by omega)
      · exact (normDelta_eq_of_dvd (by omega) (by omega) (by simp)).symm

/-- Settles O19: `|d|` turns are enough for any delta, and twelve for a difference of 33 bits. -/
theorem normDeltaIsTheLoopsShorterArc : Obligations.NormDeltaIsTheLoopsShorterArc := by
  intro d
  obtain ⟨hlower, hupper, hdvd⟩ := normDelta_spec d
  refine ⟨hlower, hupper, hdvd, ⟨d.natAbs, fun more => normDeltaLoop_eq ?_ ?_⟩, fun hsmall => ?_⟩
  · omega
  · omega
  · rw [Int.abs_eq_natAbs] at hsmall
    exact normDeltaLoop_eq (by omega) (by omega)

end Sys2Proof.Machine
end

section
/-! The clamp, the wrapped count, the phase table and the anchor test (40_axis_functions.md R58, R63 to R68), and what a
decoder reads from two rows of the table (43_output_commands.md R89, R90). -/

namespace Sys2Proof.Machine

/-- Settles O17: each case is read off the library's `max` and `min`. -/
theorem clampBoundsItsArgument : Obligations.ClampBoundsItsArgument := by
  intro v lo hi hle
  rw [clamp_eq_max_min v hle, clamp_eq_max_min v (show (1 : Int) ≤ 2 by decide)]
  omega

/-- A sum at most one revolution outside the range needs one correction (R63). -/
theorem wrapCount_eq_ite {p k ppr : Int} (hlower : -ppr ≤ p + k) (hupper : p + k < 2 * ppr) :
    wrapCount p k ppr = if p + k < 0 then p + k + ppr else if ppr ≤ p + k then p + k - ppr else p + k := by
  rw [wrapCount]
  split
  · rw [← Int.add_emod_right]
    exact Int.emod_eq_of_lt (by omega) (by omega)
  · split
    · rw [← Int.sub_emod_right]
      exact Int.emod_eq_of_lt (by omega) (by omega)
    · exact Int.emod_eq_of_lt (by omega) (by omega)

/-- Settles O22: a change of at most half a revolution leaves the sum within one revolution of the range. -/
theorem wrapCountStaysInRange : Obligations.WrapCountStaysInRange := by
  intro p k ppr hp hlt
  refine ⟨Int.emod_nonneg _ (by omega), Int.emod_lt_of_pos _ (by omega), Int.dvd_self_sub_emod, fun hhalf => ?_⟩
  rw [Int.abs_eq_natAbs] at hhalf
  exact wrapCount_eq_ite (by omega) (by omega)

/-- The four rows of the phase table, one for each residue of the count. -/
theorem emod_four_cases (p : Int) : p % 4 = 0 ∨ p % 4 = 1 ∨ p % 4 = 2 ∨ p % 4 = 3 := by omega

/-- The channels depend on the count modulo 4 only. -/
theorem pattern_emod_four (p : Int) : pattern (p % 4) = pattern p := by
  simp only [pattern, Int.emod_emod]

/-- The two low bits of a count depend on it modulo 4 only. -/
theorem ofInt_two_emod_four (p : Int) : BitVec.ofInt 2 (p % 4) = BitVec.ofInt 2 p := by
  apply BitVec.eq_of_toInt_eq
  rw [BitVec.toInt_ofInt, BitVec.toInt_ofInt]
  exact Int.emod_bmod p 4

/-- Settles O23: both sides depend on `p % 4` only, and the four rows are checked one by one. -/
theorem patternIsThePhaseTable : Obligations.PatternIsThePhaseTable := by
  intro p
  rw [← pattern_emod_four, ← ofInt_two_emod_four]
  rcases emod_four_cases p with hrow | hrow | hrow | hrow <;> rw [hrow] <;> decide

/-- Settles O24: the model's magnitude is the absolute value, and `TOL` and `FULL` are the two numerals. -/
theorem nearAnchorIsStrictAroundZeroAndFull : Obligations.NearAnchorIsStrictAroundZeroAndFull := by
  intro a
  rw [nearAnchor, Bool.or_eq_true, decide_eq_true_iff, decide_eq_true_iff, magnitude_eq_abs, magnitude_eq_abs]
  rfl

/-- Settles O25: the move keeps the invariant, which ties the channels to the count. -/
theorem channelsFollowCountAfterStep : Obligations.ChannelsFollowCountAfterStep := by
  intro x k hinv
  obtain ⟨-, -, -, -, hchannels⟩ := moveCount_updateQuadratureStates_inv hinv k
  refine ⟨hchannels, ?_⟩
  rw [updateQuadratureStates_positionCount]
  exact toNat_moveCount hinv k

/-- The row of the table that a count's channels are. -/
theorem phaseRow_pattern (p : Int) : phaseRow (pattern p) = p % 4 := by
  rw [← pattern_emod_four]
  rcases emod_four_cases p with hrow | hrow | hrow | hrow <;> rw [hrow] <;> rfl

/-- Wrapping takes off whole revolutions, which are whole cycles of the table, so a decoder sees the change modulo 4. -/
theorem turn_wrapCount {p k ppr : Int} (hdvd : (4 : Int) ∣ ppr) :
    (phaseRow (pattern (wrapCount p k ppr)) - phaseRow (pattern p)) % 4 = k % 4 := by
  rw [phaseRow_pattern, phaseRow_pattern, wrapCount, Int.emod_emod_of_dvd _ hdvd]
  omega

/-- Settles O26: the four residues of the change modulo 4 are what a decoder can tell apart. -/
theorem decoderReadsOnlySmallCountChanges : Obligations.DecoderReadsOnlySmallCountChanges := by
  intro p k ppr _ _ hdvd
  rw [observedStep, turn_wrapCount hdvd]
  refine ⟨fun hsmall => ?_, fun hcycles => ?_, fun hhalf => ?_, ?_, ?_⟩
  · obtain rfl | rfl | rfl : k = -1 ∨ k = 0 ∨ k = 1 := by
      rw [Int.abs_eq_natAbs] at hsmall
      omega
    all_goals rfl
  · rw [Int.emod_eq_zero_of_dvd hcycles]
    rfl
  · rw [hhalf]
    rfl
  · rintro rfl
    rfl
  · rintro rfl
    rfl

end Sys2Proof.Machine
end

section
/-! A slot that shows an index has count 0 (41_sample_commands.md R69, R71, R73; 42_config_commands.md R75, R76;
70_reset_and_hazards.md R106), along every step. -/

namespace Sys2Proof.Machine

/-- What reset gives a slot and every write of a slot keeps, every step keeps of both slots: an edge loads reset, runs one
command, or leaves the slots. -/
theorem step_keeps_of_slotWrite_keeps {P : AxisState → Prop} (hreset : ∀ cfgCpr, P (resetSlot cfgCpr))
    (hwrite : ∀ {axis active x i y}, SlotWrite axis active x i y → P x → P y) {s t : State}
    (hstep : step s = .next t) (hs : P s.ax0 ∧ P s.ax1) : P t.ax0 ∧ P t.ax1 := by
  obtain ⟨hs0, hs1⟩ := hs
  rcases takeEdge_cases s with ⟨-, h⟩ | ⟨e, rest, -, ⟨-, h⟩ | ⟨-, -, h⟩ | ⟨-, -, h⟩⟩ <;> rw [step, h] at hstep
  · cases hstep
    exact ⟨hs0, hs1⟩
  · cases hstep
    exact ⟨hreset _, hreset _⟩
  · obtain ⟨i, hword, -⟩ := execWord_runs_command e.cmdWord
    obtain ⟨u, hexec, -, hslot0, hslot1⟩ := exec_writes i (State.present { s with edges := rest } e.presents)
    rw [hword, hexec] at hstep
    cases hstep
    rw [present_ax0] at hslot0
    rw [present_ax1] at hslot1
    exact ⟨hwrite hslot0 hs0, hwrite hslot1 hs1⟩
  · cases hstep
    rw [present_ax0, present_ax1]
    exact ⟨hs0, hs1⟩

/-- The part of `State.IndexAtZero` that speaks of one slot. -/
def AxisState.IndexAtZero (x : AxisState) : Prop := x.index = true → x.positionCount = 0#16

theorem indexAtZero_of_count_zero {x : AxisState} (hcount : x.positionCount = 0#16) : x.IndexAtZero := fun _ => hcount

theorem State.indexAtZero_iff (s : State) : s.IndexAtZero ↔ s.ax0.IndexAtZero ∧ s.ax1.IndexAtZero := Iff.rfl

/-- The override clears the count where it raises the index, and elsewhere writes neither. -/
theorem anchorOverride_indexAtZero {x : AxisState} (h : x.IndexAtZero) (a : Int) : (x.anchorOverride a).IndexAtZero := by
  unfold AxisState.anchorOverride
  split
  · exact indexAtZero_of_count_zero rfl
  · exact h

/-- After an UPDATE the index shows exactly whether the count is 0 (41_sample_commands.md R74 item 2). -/
theorem advance_index_iff (x : AxisState) (cur : Int) :
    (x.advance cur).index = true ↔ (x.advance cur).positionCount = 0#16 := by
  rw [advance_index, beq_iff_eq]

/-- INIT and the resolution commands clear the count, and the other writes set index and count together. -/
theorem SlotWrite.indexAtZero {axis : Int} {active : Prop} {x y : AxisState} {i : Instr}
    (h : SlotWrite axis active x i y) (hx : x.IndexAtZero) : y.IndexAtZero := by
  cases h with
  | kept => exact hx
  | calibrated => exact indexAtZero_of_count_zero rfl
  | advanced a b angle => exact (advance_index_iff x angle).mp
  | overridden a => exact anchorOverride_indexAtZero hx a
  | configured => exact indexAtZero_of_count_zero rfl
  | configuredAxis => exact indexAtZero_of_count_zero rfl

/-- Settles O10: reset clears the count, and every write of a slot keeps the implication (`SlotWrite.indexAtZero`). -/
theorem everyStepKeepsIndexAtZeroCount : Obligations.EveryStepKeepsIndexAtZeroCount := by
  intro s t hs hstep
  rw [State.indexAtZero_iff] at hs ⊢
  exact step_keeps_of_slotWrite_keeps (fun _ => indexAtZero_of_count_zero rfl) SlotWrite.indexAtZero hstep hs

end Sys2Proof.Machine
end

section
/-! The sample commands (41_sample_commands.md R69 to R73), with the anchor test and the activity of slot 1 in the words of
the spec. -/

namespace Sys2Proof.Machine

/-- The open intervals around 0 and 360 degrees that the anchor test accepts (40_axis_functions.md R66). -/
theorem nearAnchor_iff (a : Int) : nearAnchor a = true ↔ AnchorAngle a := by
  rw [nearAnchorIsStrictAroundZeroAndFull a, abs_lt, abs_lt]
  omega

theorem nearAnchor_eq_decide (a : Int) : nearAnchor a = decide (AnchorAngle a) := by
  rw [Bool.eq_iff_iff, nearAnchor_iff, decide_eq_true_iff]

theorem atAnchor_iff (x : AxisState) (a : Int) :
    x.atAnchor a = true ↔ AnchorAngle a ∧ x.channelA = false ∧ x.channelB = false := by
  rw [AxisState.atAnchor, Bool.and_eq_true, Bool.and_eq_true, nearAnchor_iff, Bool.not_eq_true', Bool.not_eq_true',
    and_assoc]

theorem anchorOverride_eq_ite (x : AxisState) (a : Int) : x.anchorOverride a =
    if AnchorAngle a ∧ x.channelA = false ∧ x.channelB = false then { x with index := true, positionCount := 0#16 }
    else x :=
  if_congr (atAnchor_iff x a) rfl rfl

/-- The fields a command that writes every active slot leaves, and slot 1 by the stored axis count. -/
theorem mapActive_eq (s : State) (f g : AxisState → AxisState) : s.mapActive f g =
    { s with ax0 := f s.ax0, ax1 := if s.numAxes = 2#2 then g s.ax1 else s.ax1 } := by
  rw [← if_congr (twoAxes_iff s) rfl rfl]
  rfl

/-- Settles O29: the calibrated slot, with the anchor test as the angle's two intervals. -/
theorem initCalibratesActiveSlots : Obligations.InitCalibratesActiveSlots := by
  refine ⟨opcodeSelects .init, fun angle1 angle2 s => ?_⟩
  rw [exec, execInit, mapActive_eq, ← nearAnchor_eq_decide, ← nearAnchor_eq_decide]
  rfl

/-- Settles O34: the selector names slot 0, the active slot 1, or no slot to write. -/
theorem resetIndexAppliesAnchorOverride : Obligations.ResetIndexAppliesAnchorOverride := by
  refine ⟨opcodeSelects .resetIndex, fun axis angle s => ?_⟩
  rw [exec, execResetIndex]
  rcases activeSlot_cases s axis with ⟨rfl, hslot⟩ | ⟨rfl, htwo, hslot⟩ | ⟨hzero, hone, hslot⟩
  · simp [hslot, State.setSlot, State.slot, State.respond, anchorOverride_eq_ite]
  · simp [hslot, State.setSlot, State.slot, State.respond, anchorOverride_eq_ite, (twoAxes_iff s).mp htwo]
  · rw [twoAxes_iff] at hone
    simp only [hslot, hzero, false_and, if_false, ← and_assoc, hone]
    rfl

/-- The precondition of UPDATE (41_sample_commands.md R70). -/
theorem updateReady_iff (s : State) :
    s.updateReady = true ↔ s.ax0.calibrated = true ∧ (s.numAxes = 2#2 → s.ax1.calibrated = true) := by
  rw [State.updateReady, Bool.and_eq_true, Bool.or_eq_true, Bool.not_eq_true', ← Bool.not_eq_true, twoAxes_iff,
    imp_iff_not_or]

theorem exec_update_of_ready {s : State} (h : s.updateReady = true) (a b : Int) : exec (.update a b) s =
    .next ((s.mapActive (fun x => x.advance a) (fun x => x.advance b)).respond 0#32) :=
  if_pos h

theorem exec_update_of_not_ready {s : State} (h : ¬s.updateReady = true) (a b : Int) :
    exec (.update a b) s = .next (s.respond 0#32) :=
  if_neg h

/-- With one axis the precondition and the write of UPDATE are those of slot 0 alone. -/
theorem exec_update_of_one_axis {s : State} (hone : s.numAxes ≠ 2#2) (a b : Int) : exec (.update a b) s =
    .next (State.respond { s with ax0 := if s.ax0.calibrated then s.ax0.advance a else s.ax0 } 0#32) := by
  have hready : s.updateReady = true ↔ s.ax0.calibrated = true := by
    rw [updateReady_iff]
    exact and_iff_left fun htwo => absurd htwo hone
  by_cases h0 : s.ax0.calibrated = true
  · rw [exec_update_of_ready (hready.mpr h0), mapActive_eq, if_neg hone, if_pos h0]
  · rw [exec_update_of_not_ready (mt hready.mp h0), if_neg h0]

/-- Settles O31: an uncalibrated active slot fails the precondition, and with one axis nothing of slot 1 is read. -/
theorem updateNeedsCalibratedActiveSlots : Obligations.UpdateNeedsCalibratedActiveSlots := by
  refine fun angle1 angle2 s => ⟨fun huncalibrated => exec_update_of_not_ready ?_ angle1 angle2, fun hone c =>
    ⟨_, exec_update_of_one_axis hone angle1 angle2,
      exec_update_of_one_axis (s := { s with ax1 := { s.ax1 with calibrated := c } }) hone angle1 angle2⟩⟩
  rw [updateReady_iff]
  rintro ⟨h0, h1⟩
  rcases huncalibrated with h | ⟨htwo, h⟩
  · exact Bool.false_ne_true (h.symm.trans h0)
  · exact Bool.false_ne_true (h.symm.trans (h1 htwo))

/-- Settles O32: an UPDATE that takes effect applies to each slot an operation on that slot's record and angle. -/
theorem updateSlotsAreIndependent : Obligations.UpdateSlotsAreIndependent := by
  intro a1 a2 b1 b2 s t hnum hs ht
  refine ⟨_, _, exec_update_of_ready hs a1 a2, exec_update_of_ready ht b1 b2, ?_, ?_⟩
  · rintro hslot rfl
    rw [respond_ax0, respond_ax0, mapActive_ax0, mapActive_ax0, hslot]
  · rintro hslot rfl
    rw [mapActive_eq, mapActive_eq, respond_ax1, respond_ax1, hnum, hslot]

/-- Settles O33: each active slot is an advanced one (`advance_index_iff`). -/
theorem updateIndexMeansCountZero : Obligations.UpdateIndexMeansCountZero := by
  intro a1 a2 s hready
  refine ⟨_, exec_update_of_ready hready a1 a2, advance_index_iff s.ax0 a1, fun htwo => ?_⟩
  rw [mapActive_eq, if_pos htwo]
  exact advance_index_iff s.ax1 a2

section
variable (x : AxisState) (cur : Int)

/-- The channels after an UPDATE: the steps after step 5 do not write them (41_sample_commands.md R71). -/
theorem advance_channels : ((x.advance cur).channelA, (x.advance cur).channelB) =
    if x.countChange cur = 0 then (x.channelA, x.channelB)
    else pattern (x.moveCount (x.countChange cur)).positionCount.toNat := by
  simp only [AxisState.advance, keepAngle_channelA, keepAngle_channelB, anchorOverride_channelA,
    anchorOverride_channelB, setIndexFromCount_channelA, setIndexFromCount_channelB]
  exact updateQuadratureStates_channels _ _

/-- The count after an UPDATE, by the override's condition, which may be read off the final channels
(41_sample_commands.md R71 step 7). -/
theorem advance_positionCount : (x.advance cur).positionCount =
    if AnchorAngle cur ∧ (x.advance cur).channelA = false ∧ (x.advance cur).channelB = false then 0#16
    else (x.moveCount (x.countChange cur)).positionCount := by
  simp only [AxisState.advance, keepAngle_positionCount, keepAngle_channelA, keepAngle_channelB,
    anchorOverride_positionCount, anchorOverride_channelA, anchorOverride_channelB, atAnchor_iff,
    setIndexFromCount_positionCount, updateQuadratureStates_positionCount]

end

/-- The eight steps of UPDATE satisfy what 41_sample_commands.md R71 requires of delta, count change and wrapped count. -/
theorem advancesTo_advance {x : AxisState} (h : x.Inv) (cur : Int) : AdvancesTo x cur (x.advance cur) := by
  have hmoved := toNat_moveCount h (x.countChange cur)
  have hchannels := advance_channels x cur
  have hcount := advance_positionCount x cur
  obtain ⟨-, -, -, hlt, -⟩ := h
  obtain ⟨hwrapLow, hwrapHigh, hwrapDvd, -⟩ := wrapCountStaysInRange x.positionCount.toNat (x.countChange cur)
    x.ppr.toNat (by omega) (by omega)
  rw [← hmoved] at hwrapLow hwrapHigh hwrapDvd
  refine ⟨normDelta (cur - x.previousAngle.toInt), x.countChange cur,
    (x.moveCount (x.countChange cur)).positionCount.toNat, normDelta_spec _, deltaToCountRoundsExactly _ _,
    ⟨hwrapLow, hwrapHigh, hwrapDvd⟩, fun hk => ?_, fun hk => ?_, fun hanchor => ?_, fun hanchor => ?_,
    advance_previousAngle x cur, advance_cpr x cur, advance_ppr x cur, advance_startingAngle x cur,
    advance_calibrated x cur⟩
  · rwa [if_pos hk, Prod.mk.injEq] at hchannels
  · rwa [if_neg hk] at hchannels
  · rw [if_pos hanchor] at hcount
    exact ⟨hcount, (advance_index_iff x cur).mpr hcount⟩
  · rw [if_neg hanchor] at hcount
    rw [advance_index_iff, hcount, BitVec.toNat_eq, BitVec.toNat_ofNat]
    omega

/-- Settles O30: under the precondition each active slot is advanced (`advancesTo_advance`). -/
theorem updateAdvancesActiveSlots : Obligations.UpdateAdvancesActiveSlots := by
  refine ⟨opcodeSelects .update, fun angle1 angle2 s hinv h0 h1 => ?_⟩
  obtain ⟨hinv0, hinv1, -⟩ := hinv
  refine ⟨_, exec_update_of_ready ((updateReady_iff s).mpr ⟨h0, h1⟩) angle1 angle2, advancesTo_advance hinv0 angle1,
    fun htwo => ?_, fun hone => ?_, rfl, answers_respond rfl rfl rfl 0#32⟩
  · rw [mapActive_eq, if_pos htwo]
    exact advancesTo_advance hinv1 angle2
  · rw [mapActive_eq, if_neg hone]
    rfl

end Sys2Proof.Machine
end

section
/-! The configuration commands (42_config_commands.md R75 to R78). -/

namespace Sys2Proof.Machine

/-- A resolution change reads nothing of the slot, so it needs no invariant before it (R75). -/
theorem configuresTo_configure (x : AxisState) (c : Int) : ConfiguresTo x c (x.configure c) :=
  ⟨toNat_clampedCpr c, toNat_clampedPpr c, configure_positionCount x c, configure_channelA x c, configure_channelB x c,
    configure_index x c, configure_startingAngle x c, configure_previousAngle x c, configure_calibrated x c⟩

/-- Settles O35: each slot is configured from its own record (`configuresTo_configure`). -/
theorem setCprReconfiguresBothSlots : Obligations.SetCprReconfiguresBothSlots :=
  ⟨opcodeSelects .setCpr, fun c s => ⟨_, rfl, configuresTo_configure s.ax0 c, configuresTo_configure s.ax1 c, rfl,
    answers_respond rfl rfl rfl 0#32⟩⟩

/-- A selector that names no slot leaves only the response (30_encoding.md R49). -/
theorem exec_setCprAxis_of_invalid {axis : Int} (hslot : selectSlot axis = none) (c : Int) (s : State) :
    exec (.setCprAxis axis c) s = .next (s.respond 0#32) := by
  simp only [exec, execSetCprAxis, hslot]

/-- Settles O36: the selector names slot 0, slot 1 or no slot, and the slot it does not name is not written. -/
theorem setCprAxisReconfiguresOneSlot : Obligations.SetCprAxisReconfiguresOneSlot := by
  refine ⟨opcodeSelects .setCprAxis, fun axis c s => ?_⟩
  rcases selectSlot_cases axis with ⟨rfl, -⟩ | ⟨rfl, -⟩ | ⟨hzero, hone, hslot⟩
  · exact ⟨_, exec_setCprAxis_zero c s, fun _ => configuresTo_configure s.ax0 c, fun h => absurd rfl h, nofun,
      fun _ => rfl, rfl, answers_setSlot_respond s .slot0 _ _⟩
  · exact ⟨_, exec_setCprAxis_one c s, nofun, fun _ => rfl, fun _ => configuresTo_configure s.ax1 c,
      fun h => absurd rfl h, rfl, answers_setSlot_respond s .slot1 _ _⟩
  · exact ⟨_, exec_setCprAxis_of_invalid hslot c s, fun h => absurd h hzero, fun _ => rfl, fun h => absurd h hone,
      fun _ => rfl, rfl, answers_respond rfl rfl rfl 0#32⟩

/-- Settles O37: the clamp has the two values of `clampAxes_eq`. -/
theorem setNumAxesWritesOnlyTheAxisCount : Obligations.SetNumAxesWritesOnlyTheAxisCount := by
  refine ⟨opcodeSelects .setNumAxes, fun n s => ?_⟩
  rw [exec, execSetNumAxes, clampAxes_eq]
  rfl

/-- Settles O38: NOP is the bare response. -/
theorem nopChangesNothing : Obligations.NopChangesNothing :=
  ⟨opcodeSelects .nop, fun _ => rfl⟩

end Sys2Proof.Machine
end

section
/-! The tracking limit (43_output_commands.md R90). -/

namespace Sys2Proof.Machine

/-- Settles O27: the nearest integer to a share of at most one and a half is at most 1 in magnitude, but for the tie at
exactly one and a half, which goes away from zero to 2 (`deltaToCount_eq_iff`). -/
theorem trackingLimitIsOneAndAHalfCounts : Obligations.TrackingLimitIsOneAndAHalfCounts := by
  intro d ppr
  obtain ⟨hnear, htie⟩ : NearestTiesAway (d * ppr) 360000000 (deltaToCount d ppr) := deltaToCount_eq_iff.mp rfl
  generalize d * ppr = n at hnear htie ⊢
  generalize deltaToCount d ppr = k at hnear htie ⊢
  simp only [Int.abs_eq_natAbs] at hnear htie ⊢
  exact ⟨fun hsmall => by omega, fun hbelow => by omega⟩

end Sys2Proof.Machine
end

section
/-! The output commands and what is made of the snapshot word: the pins and the CSV row (43_output_commands.md R79 to
R87). -/

namespace Sys2Proof.Machine

/-- The bits of the snapshot word, lowest first; the bits above them are 0 (43_output_commands.md R85). -/
def State.snapshotBits (s : State) : List Bool :=
  [s.ax0.channelA, s.ax0.channelB, decide (s.numAxes = 2#2) && s.ax1.channelA,
    decide (s.numAxes = 2#2) && s.ax1.channelB, s.ax0.index || (decide (s.numAxes = 2#2) && s.ax1.index),
    decide (s.numAxes = 2#2)]

/-- Each bit of the snapshot: below bit 6 the word is its six fields side by side, and the extension to 32 bits adds
zeros. -/
theorem getLsbD_snapshot (s : State) (j : Nat) : s.snapshot.getLsbD j = s.snapshotBits.getD j false := by
  have htwo : decide (s.numAxes = 2#2) = s.twoAxes := rfl
  simp only [State.snapshot, BitVec.getLsbD_setWidth, BitVec.getLsbD_append, BitVec.getLsbD_ofBool]
  match j with
  | 0 | 1 | 2 | 3 | 4 | 5 => simp [State.snapshotBits, htwo]
  | j + 6 => simp [State.snapshotBits]

/-- Settles O43: the answer is the snapshot word, read bit by bit (`getLsbD_snapshot`). -/
theorem formattedOutputIsTheSnapshot : Obligations.FormattedOutputIsTheSnapshot := by
  refine ⟨opcodeSelects .getFormattedOutput, fun s => ⟨s.snapshot, rfl, getLsbD_snapshot s 0, getLsbD_snapshot s 1,
    getLsbD_snapshot s 2, getLsbD_snapshot s 3, getLsbD_snapshot s 4, getLsbD_snapshot s 5, fun j hj => ?_⟩⟩
  rw [getLsbD_snapshot]
  exact List.getD_eq_default _ _ hj

/-- The pins by the registers they show (43_output_commands.md R86). -/
theorem pins_eq (s : State) : s.pins = ⟨s.ax0.channelA, s.ax0.channelB, decide (s.numAxes = 2#2) && s.ax1.channelA,
    decide (s.numAxes = 2#2) && s.ax1.channelB, s.ax0.index || (decide (s.numAxes = 2#2) && s.ax1.index),
    decide (s.numAxes = 2#2)⟩ := by
  simp only [State.pins, getLsbD_snapshot]
  rfl

/-- The pins read the architectural state alone. -/
theorem State.SameArch.pins_congr {s t : State} (h : s.SameArch t) : s.pins = t.pins := by
  obtain ⟨hnum, h0, h1⟩ := h
  rw [pins_eq, hnum, h0, h1, ← pins_eq]

/-- The axis count is clamped to 2 exactly from 2 on. -/
theorem clampAxes_eq_two_iff (n : Int) : clampAxes n = 2#2 ↔ 2 ≤ n := by
  rw [clampAxes_eq]
  split
  · next hone => exact iff_of_false (by decide) (by omega)
  · next htwo => exact iff_of_true rfl (by omega)

/-- After reset every channel and index is 0, so only the axis count shows (70_reset_and_hazards.md R107). -/
theorem pins_loadReset (s : State) (cfgCpr cfgNumAxes : BitVec 32) :
    (s.loadReset cfgCpr cfgNumAxes).pins = ⟨false, false, false, false, false, decide (2 ≤ cfgNumAxes.toInt)⟩ := by
  rw [pins_eq]
  simp [State.loadReset, resetSlot, clampAxes_eq_two_iff]

/-- Settles O44: the pins are the snapshot's bits by definition, an idle edge keeps the architectural state they read,
and a reset edge loads the state of `pins_loadReset`. -/
theorem pinsFollowTheSnapshot : Obligations.PinsFollowTheSnapshot := by
  refine ⟨fun s => ⟨s.snapshot, rfl, rfl⟩, fun s e rest hedges hrun hidle => ?_, fun s e rest hedges hreset => ?_⟩
  · exact ⟨_, step_of_idle_edge hedges hrun ((accepts_eq_false_iff hrun).mpr hidle),
      (present_sameArch s rest e.presents).pins_congr⟩
  · exact ⟨_, step_of_reset_edge hedges hreset, pins_loadReset _ _ _⟩

/-- The row written out: three fields or five, with commas between (43_output_commands.md R87). -/
theorem csvChars_eq (w : BitVec 32) : csvChars w =
    if w.getLsbD 5 = false then [csvDigit (w.getLsbD 0), ',', csvDigit (w.getLsbD 1), ',', csvDigit (w.getLsbD 4)]
    else [csvDigit (w.getLsbD 0), ',', csvDigit (w.getLsbD 1), ',', csvDigit (w.getLsbD 2), ',',
      csvDigit (w.getLsbD 3), ',', csvDigit (w.getLsbD 4)] := by
  rw [csvChars, csvFields]
  cases w.getLsbD 5 <;> rfl

theorem csvDigit_ne_comma (b : Bool) : csvDigit b ≠ ',' := by
  cases b <;> decide

/-- The fields hold no comma, so only those between them count. -/
theorem count_comma_csvChars (w : BitVec 32) : (csvChars w).count ',' = if w.getLsbD 5 then 4 else 2 := by
  rw [csvChars_eq]
  cases w.getLsbD 5 <;> simp [csvDigit_ne_comma]

/-- Settles O45: the row of any word (`csvChars_eq`), and its commas for a word whose bit 5 is `numAxes = 2`. -/
theorem csvRowRendersTheSnapshot : Obligations.CsvRowRendersTheSnapshot := by
  refine ⟨fun w => congrArg String.ofList (csvChars_eq w), fun s => ⟨s.snapshot, rfl, ?_⟩⟩
  have htwo : s.snapshot.getLsbD 5 = decide (s.numAxes = 2#2) := getLsbD_snapshot s 5
  simp only [count_comma_csvChars, htwo, decide_eq_true_eq]

theorem bitWord_eq_ite (b : Bool) : bitWord b = if b then 1#32 else 0#32 := by
  cases b <;> rfl

section
variable (s : State) (axis : Int) {f g : AxisState → BitVec 32} (hfg : ∀ x, f x = g x)
include hfg

/-- The next state of an accessor gated by activity, its report `f` written as `g`. -/
theorem respond_report_eq : s.respond (s.report axis f) = { s with pending := s.pending ++
    [if axis = 0 then g s.ax0 else if axis = 1 ∧ s.numAxes = 2#2 then g s.ax1 else 0#32] } := by
  simp only [State.respond, report_eq, twoAxes_iff, hfg]

/-- The next state of the accessor that is not gated, its report `f` written as `g`. -/
theorem respond_reportStored_eq : s.respond (s.reportStored axis f) = { s with pending := s.pending ++
    [if axis = 0 then g s.ax0 else if axis = 1 then g s.ax1 else 0#32] } := by
  simp only [State.respond, reportStored_eq, hfg]

end

/-- Settles O41: five commands that only respond, each with its own field behind the one gate (`respond_report_eq`). -/
theorem gatedAccessorsReportActiveSlot : Obligations.GatedAccessorsReportActiveSlot := by
  refine ⟨⟨opcodeSelects .getChannelA, opcodeSelects .getChannelB, opcodeSelects .getIndex,
    opcodeSelects .getPositionCount, opcodeSelects .isCalibrated⟩, fun axis s => ⟨?_, ?_, ?_, ?_, ?_⟩⟩
  · exact congrArg _ (respond_report_eq s axis fun x => bitWord_eq_ite x.channelA)
  · exact congrArg _ (respond_report_eq s axis fun x => bitWord_eq_ite x.channelB)
  · exact congrArg _ (respond_report_eq s axis fun x => bitWord_eq_ite x.index)
  · exact congrArg _ (respond_report_eq s axis fun x => (BitVec.ofNat_toNat 32 x.positionCount).symm)
  · exact congrArg _ (respond_report_eq s axis fun x => bitWord_eq_ite x.calibrated)

/-- Settles O42: the stored resolution behind no gate but the selector's (`respond_reportStored_eq`). -/
theorem getCprReportsStoredResolution : Obligations.GetCprReportsStoredResolution := by
  refine ⟨opcodeSelects .getCpr, fun axis s => ?_⟩
  exact congrArg _ (respond_reportStored_eq s axis fun x => (BitVec.ofNat_toNat 32 x.cpr).symm)

end Sys2Proof.Machine
end

section
/-! No step stops the machine (60_exceptions.md R91, R104). -/

namespace Sys2Proof.Machine

/-- With no edge lined up a step is the identity (log entry 2). -/
theorem step_of_no_edge {s : State} (hedges : s.edges = []) : step s = .next s := by
  simp only [step, takeEdge, hedges]

/-- Settles O53: an empty list of edges is the branch of the step that takes none. -/
theorem noClockEdgeHoldsTheState : Obligations.NoClockEdgeHoldsTheState := fun _ => step_of_no_edge

/-- Settles O3: every command answers (`everyCommandAnswersOnce`), and so does a step without an edge, at a reset edge
and at an edge outside reset. -/
theorem nothingEverTrapsOrStalls : Obligations.NothingEverTrapsOrStalls := by
  refine ⟨fun i s => ?_, fun s => ?_⟩
  · obtain ⟨t, -, hexec, -⟩ := everyCommandAnswersOnce i s
    exact ⟨t, hexec⟩
  · cases hedges : s.edges with
    | nil => exact ⟨s, step_of_no_edge hedges⟩
    | cons e rest =>
      cases hrst : e.rstN with
      | false => exact ⟨_, step_of_reset_edge hedges hrst⟩
      | true =>
        obtain ⟨t, -, hstep, -⟩ := step_of_running_edge_answers hedges hrst
        exact ⟨t, hstep⟩

end Sys2Proof.Machine
end

section
/-! Whole revolutions between two samples (60_exceptions.md R92 row E8; 70_reset_and_hazards.md R110). -/

namespace Sys2Proof.Machine

/-- The count change depends on the sample modulo one revolution only, since the delta's shorter arc does
(`normDelta_congr`). -/
theorem countChange_congr (x : AxisState) {cur cur' : Int} (hdvd : (360000000 : Int) ∣ cur' - cur) :
    x.countChange cur' = x.countChange cur := by
  have harc : normDelta (cur' - x.previousAngle.toInt) = normDelta (cur - x.previousAngle.toInt) :=
    normDelta_congr (by rwa [sub_sub_sub_cancel_right])
  rw [AxisState.countChange, AxisState.countChange, harc]

/-- Settles O28: a sample whole revolutions from the last one makes the change of the last one repeated, which is 0. -/
theorem wholeRevolutionsAreNotSeen : Obligations.WholeRevolutionsAreNotSeen := by
  intro x cur n
  have hturns (a : Int) : x.countChange (a + n * 360000000) = x.countChange a :=
    countChange_congr x (by rw [add_sub_cancel_left]; exact dvd_mul_left _ _)
  exact ⟨hturns cur, (hturns _).trans (countChange_of_previousAngle rfl)⟩

end Sys2Proof.Machine
end

section
/-! The words of the encoding examples (30_encoding.md §5). -/

namespace Sys2Proof.Machine

/-- A word packed from its parts decodes to the row's command of the two operand fields. -/
theorem decode_packWord (m : Mnemonic) (arg0 arg1 : Word) :
    decode (packWord m.opcode arg0 arg1) = .ok (Instr.ofFields m (sext32 arg0) (sext32 arg1)) := by
  rw [decode_of_opcode (Laws.OpcodeFirst.opField_packWord _ _ _).symm, arg0Field_packWord, arg1Field_packWord]

/-- Settles O15: each word is packed from its row's opcode and operand fields (`decode_packWord`); what is computed is
the fields' signed values. -/
theorem specWordsDecode : Obligations.SpecWordsDecode :=
  ⟨decode_packWord .init 0x02AEA540#32 0x0D693A40#32, decode_packWord .update 0xFFFFFE0C#32 0x00000000#32,
    decode_packWord .resetIndex 0x00000001#32 0x1575280C#32, decode_packWord .setCpr 0x0001869F#32 0x00000000#32,
    decode_packWord .setNumAxes 0xFFFFFFF9#32 0x00000000#32, decode_packWord .isCalibrated 0x00000001#32 0x00000000#32,
    decode_packWord .getFormattedOutput 0x00000000#32 0x00000000#32⟩

end Sys2Proof.Machine
end
